-- ==== Sys2Proof/Word.lean ====
section
/-!
DEFINITION. The machine word: the data path and the directory port are 16 bits wide (00_scope.md 1.5).
-/
namespace Sys2Proof

/-- A word of the bus data path and of the directory port: "Word always means 16 bits" (00_scope.md 1.5). -/
abbrev Word := BitVec 16

end Sys2Proof
end

