-- ==== Sys2Proof/Syntax.lean ====
section
/-!
DEFINITION. The commands of the block: one constructor of `Instr` per row of spec/opcode_table.json, with the
operands that the row's rule says the event carries.
-/
namespace Sys2Proof

/-- Masters are numbered 0 to 7 (00_scope.md 1.5). -/
abbrev MasterId := Fin 8
/-- Slots are numbered 0 to 15 (00_scope.md 1.5). -/
abbrev SlotId := Fin 16
/-- Window ids run from 0 to 63 (R1). -/
abbrev WindowId := Fin 64
/-- Tags run from 0 to 15 for each master (00_scope.md 1.5). -/
abbrev Tag := Fin 16

/-- The two address spaces of the backplane (00_scope.md 1.5). -/
inductive Space where
  | mem
  | io
deriving DecidableEq, Repr

/-- How a slot's card finds its cycles, by its mode strap (R87). -/
inductive Mode where
  | directed
  | selfDecoding
deriving DecidableEq, Repr

/-- The eight acknowledge statuses of the AST lines (R168, Table 12-6). -/
inductive Status where
  | ok
  | accept
  | unmapped
  | denied
  | silent
  | retry
  | conflict
  | withdrawn
deriving DecidableEq, Repr

/-- The access width shown by the byte-lane enables: a word or a single byte lane (R23, R165). -/
inductive Width where
  | word
  | byte
deriving DecidableEq, Repr

/-- The address an address phase carries: 24-bit bytes in MEM, 16-bit ports in IO (R23). -/
inductive BusAddress where
  | mem (byte : BitVec 24)
  | io (port : BitVec 16)
deriving DecidableEq, Repr

/-- The kind of an address phase with what it carries beside the address: the data of a WRITE, the tag of a
SPLIT READ (R23, Table 1-2). -/
inductive CycleKind where
  | read
  | write (data : Word)
  | splitRead (tag : Tag)
deriving DecidableEq, Repr

/-- The commands of the block, row by row of spec/opcode_table.json. -/
inductive Instr where
  /-- INIT: the INIT line is asserted (R22). -/
  | init
  /-- INIT_RELEASE: the INIT line is released while the PRS lines (bit s set: PRS of slot s asserted) and the
  MODE straps (bit s set: SELF) stand as given (R102; log 13). -/
  | initRelease (prs mode : BitVec 16)
  /-- ADDRESS_PHASE (R23). -/
  | addressPhase (address : BusAddress) (master : MasterId) (kind : CycleKind) (width : Width)
  /-- GO: a master's WRITE to 0xFFF0 (R106). -/
  | go (master : MasterId) (code : Word) (width : Width)
  /-- STAGING_WRITE: a master's WRITE to 0xFFF2 + 2n (R104). -/
  | stagingWrite (master : MasterId) (index : Fin 5) (data : Word) (width : Width)
  /-- ATTENTION_CLEAR: a master's WRITE to 0xFFFC (R156). -/
  | attentionClear (master : MasterId) (data : Word) (width : Width)
  /-- OCCUPANCY_WRITE: a master's WRITE to 0xFFFE (R31). -/
  | occupancyWrite (master : MasterId) (data : Word) (width : Width)
  /-- ABANDON: a master's WRITE of 0x001F to 0xFFF0 (R116 to R118). -/
  | abandon (master : MasterId) (width : Width)
  /-- BAD_COMMAND: the engine takes a code that names no command (R111). -/
  | badCommand
  /-- CLAIM: the engine takes a CLAIM (R123). -/
  | claim
  /-- RESIZE: the engine takes a RESIZE (R126). -/
  | resize
  /-- MOVE: the engine takes a MOVE (R129). -/
  | move
  /-- RESTACK: the engine takes a RESTACK (R137). -/
  | restack
  /-- GRANT: the engine takes a GRANT (R138). -/
  | grant
  /-- HANDOVER: the engine takes a HANDOVER (R139). -/
  | handover
  /-- RETIRE: the engine takes a RETIRE (R143). -/
  | retire
  /-- REINSTATE: the engine takes a REINSTATE (R54). -/
  | reinstate
  /-- SET_SLOT: the engine takes a SET SLOT (R93). -/
  | setSlot
  /-- SLOT_ONLINE: the engine takes a SLOT ONLINE (R94). -/
  | slotOnline
  /-- SLOT_OFFLINE: the engine takes a SLOT OFFLINE (R95). -/
  | slotOffline
  /-- SET_MASTER: the engine takes a SET MASTER (R98). -/
  | setMaster
  /-- TUNE: the engine takes a TUNE (R100). -/
  | tune
  /-- INSPECT: the engine takes an INSPECT (R158). -/
  | inspect
  /-- RESOLVE: the engine takes a RESOLVE (R161). -/
  | resolve
  /-- PROPER_ACKNOWLEDGE: the slave drives OK or ACCEPT on AST (R43). -/
  | properAcknowledge (status : Status)
  /-- IMPROPER_ACKNOWLEDGE: the slave drives another status on AST (R44). -/
  | improperAcknowledge (status : Status)
  /-- STRAY_ACKNOWLEDGE: a slave drives a status that no cycle awaits (R46). -/
  | strayAcknowledge (status : Status)
  /-- ACKNOWLEDGE_TIMER_EXPIRY: the acknowledge timer runs out (R45). -/
  | acknowledgeTimerExpiry
  /-- DEADLINE_EXPIRY: the reply deadline of the entry of this master and tag expires (R64). -/
  | deadlineExpiry (master : MasterId) (tag : Tag)
  /-- REPLY_CYCLE: a slave drives a REPLY cycle with destination, tag, source slot, data and status (R65). -/
  | replyCycle (master : MasterId) (tag : Tag) (source : SlotId) (data : Word) (status : Status)
  /-- MASTERSHIP_GRANT: the arbiter grants the part the bus (R78). -/
  | mastershipGrant
  /-- FAULT_REPLY_END: the fault reply cycle the part drives ends (R78). -/
  | faultReplyEnd
  /-- PRESENCE_LOSS: a slot's PRS line falls from asserted to released (R89). -/
  | presenceLoss (slot : SlotId)
  /-- PRESENCE_RETURN: a slot's PRS line rises, with the level its MODE strap then has (R92). -/
  | presenceReturn (slot : SlotId) (mode : Mode)
deriving DecidableEq, Repr

end Sys2Proof
end

