-- ==== Sys2Proof/Decode.lean ====
section
/-!
DEFINITION. Decoding of table words. The block has no instruction words: no row of spec/opcode_table.json gives
bits, so no word spells a command.
-/
namespace Sys2Proof

/-- The command a word of `nbits` bits spells by the table's bits: none, since no row of spec/opcode_table.json
has any. -/
def decodeTableWord (nbits w : Nat) : Option Instr :=
  match nbits, w with
  | _, _ => none

end Sys2Proof
end

