-- ==== Sys2Proof/Config.lean ====
section
/-!
DEFINITION. The numbers the spec fixes for the part. The spec leaves no value to an implementation, so there is
no free value here.
-/
namespace Sys2Proof.Config

/-- The ORT is "an ordered collection of at most 32 entries" (R58). -/
def ortCapacity : Nat := 32

/-- Units of either space run from 0 to 4095 (00_scope.md 1.5, R2). -/
def units : Nat := 4096

/-- Acknowledge limit after INIT, in steps of 0.25 us (R102, Table 6-1). -/
def defaultAckLimit : Nat := 40

/-- Reply limit after INIT, in steps of 16 us (R102, Table 6-1). -/
def defaultReplyLimit : Nat := 64

/-- Strike limit after INIT (R100, R102). -/
def defaultStrikeLimit : Nat := 3

/-- A reply step of 16 us is this many acknowledge steps of 0.25 us, the unit in which the model keeps both
clocks (R42, R63; log 5). -/
def ticksPerReplyStep : Nat := 64

/-- A reason record's count stays at 255 (R155). -/
def countMax : Nat := 255

end Sys2Proof.Config
end

