-- ==== Sys2Proof/Machine/State.lean ====
section
/-!
DEFINITION. The state of the Spandrel 2416, block by block, and its contents right after reset. Plain data.
-/
namespace Sys2Proof.Machine

/-! ## Window Table (01_windows.md) -/

/-- The five window states (Table 2-1). -/
inductive WinState where
  | free
  | active
  | held
  | draining
  | suspended
deriving DecidableEq, Repr

/-- A set of masters, eight bits, bit n standing for master n (R5, R166). -/
abbrev MasterSet := BitVec 8

/-- The pending change of a HELD window (R8). -/
structure PendingChange where
  base : Nat
  length : Nat
  slot : SlotId
  target : Option Nat
deriving DecidableEq, Repr

/-- A window record, field by field of Table 2-1. -/
structure Window where
  state : WinState
  space : Space
  base : Nat
  length : Nat
  layer : Fin 4
  slot : SlotId
  readSet : MasterSet
  writeSet : MasterSet
  target : Option Nat
  sponsor : MasterId
  strikes : Nat
  change : Option PendingChange
  waiting : Option MasterId
deriving DecidableEq, Repr

/-- The cleared record of a FREE entry: every field zero, empty or absent (R1, Table 2-3). The zero space is MEM,
code 0 (Table 12-2; DEDUCED, log 16). -/
def Window.cleared : Window where
  state := .free
  space := .mem
  base := 0
  length := 0
  layer := 0
  slot := 0
  readSet := 0
  writeSet := 0
  target := none
  sponsor := 0
  strikes := 0
  change := none
  waiting := none

/-- Entry 0, the directory port window (R19). -/
def Window.directoryPort : Window where
  state := .active
  space := .io
  base := 4095
  length := 1
  layer := 3
  slot := 0
  readSet := 0xFF
  writeSet := 0xFF
  target := none
  sponsor := 0
  strikes := 0
  change := none
  waiting := none

/-- Entry 1 after INIT, the boot window (R20). -/
def Window.boot : Window where
  state := .active
  space := .mem
  base := 0
  length := 16
  layer := 3
  slot := 0
  readSet := 0xFF
  writeSet := 0
  target := none
  sponsor := 0
  strikes := 0
  change := none
  waiting := none

/-! ## Cycle Monitor (02_resolving_an_address.md) -/

/-- The kind of the current cycle; the tag is held for a SPLIT READ only (R38). -/
inductive CurrentKind where
  | read
  | write
  | splitRead (tag : Tag)
deriving DecidableEq, Repr

/-- The current-cycle record (R38). The timer is the remaining time in steps of 0.25 us (R42). -/
structure CurrentCycle where
  master : MasterId
  kind : CurrentKind
  window : WindowId
  slot : SlotId
  timer : Nat
deriving DecidableEq, Repr

/-- Who drives the acknowledge-status lines, and with what (R37). -/
inductive AstLines where
  | released
  | byPart (status : Status)
  | bySlave (status : Status)
deriving DecidableEq, Repr

/-- The lines the part drives on the backplane, and AST (Table 12-7). -/
structure Lines where
  /-- The one slot whose SEL is asserted, if any: "at most one of them in a cycle" (R34). -/
  sel : Option SlotId
  /-- QT0 to QT15 (R35). -/
  qt : Vector Bool 16
  /-- LOF, or idle (R36). -/
  lof : Option (BitVec 12)
  /-- AST (R37). -/
  ast : AstLines
  /-- The data lines as the part drives them (R37, R78). -/
  data : Option Word
  /-- The source lines as the part drives them in its fault reply (R78). -/
  source : Option SlotId
  /-- Destination master and tag of the part's own fault reply (R78). -/
  dest : Option (MasterId × Tag)
  /-- VOID (R70). -/
  void : Bool
deriving DecidableEq, Repr

/-- Every line released or idle (R36, R41, R70, R169). -/
def Lines.idle : Lines where
  sel := none
  qt := Vector.replicate 16 false
  lof := none
  ast := .released
  data := none
  source := none
  dest := none
  void := false

/-! ## Read Tracker (04_split_reads_and_the_outstanding_read_table.md) -/

/-- The status of a fault reply (R59). -/
inductive FaultStatus where
  | silent
  | withdrawn
deriving DecidableEq, Repr

/-- The state of an ORT entry with what is present in it: the deadline, as the remaining time in units of 0.25 us,
while WAITING; the fault status while EXPIRED (R59, Table 5-1). -/
inductive EntryState where
  | reserved
  | waiting (deadline : Nat)
  | expired (fault : FaultStatus)
deriving DecidableEq, Repr

/-- An entry of the outstanding-read table (Table 5-1). -/
structure OrtEntry where
  master : MasterId
  tag : Tag
  window : WindowId
  slot : SlotId
  unit : Nat
  state : EntryState
deriving DecidableEq, Repr

/-- The mastership state (R77). -/
inductive Mastership where
  | idle
  | requesting
  | holding
deriving DecidableEq, Repr

/-! ## Registry (05_slots_masters_and_directory_settings.md) -/

/-- The three administrative states of a slot (R85). -/
inductive SlotState where
  | absent
  | offline
  | online
deriving DecidableEq, Repr

/-- A slot record (Table 6-1). -/
structure SlotRecord where
  present : Bool
  state : SlotState
  mode : Mode
  ackLimit : Nat
  replyLimit : Nat
deriving DecidableEq, Repr

/-- A master record (R97). -/
structure MasterRecord where
  enabled : Bool
  supervisor : Bool
deriving DecidableEq, Repr

/-! ## Command Engine (06_command_contexts_and_the_command_queue.md) -/

/-- Five words of 16 bits, numbered 0 to 4: staging, operand and result words (R103). -/
structure Words where
  w0 : Word
  w1 : Word
  w2 : Word
  w3 : Word
  w4 : Word
deriving DecidableEq, Repr

/-- Five words of zero. -/
def Words.zero : Words := ⟨0, 0, 0, 0, 0⟩

/-- The five context states (R105). ACTIVE lasts for a take only. -/
inductive ContextState where
  | empty
  | queued
  | active
  | waiting
  | complete
deriving DecidableEq, Repr

/-- The result codes (Table 7-5). -/
inductive ResultCode where
  | none
  | done
  | badCommand
  | noAuthority
  | noWindow
  | protectedEntry
  | badRange
  | overlap
  | tableFull
  | windowBusy
  | badSlot
  | badState
  | lastSupervisor
  | abandoned
  | withdrawn
  | disabled
  | badOperand
deriving DecidableEq, Repr

/-- The captured command: its code and its five operand words (Table 7-1). -/
structure Captured where
  code : Word
  words : Words
deriving DecidableEq, Repr

/-- A command context (Table 7-1). -/
structure Context where
  state : ContextState
  staging : Words
  captured : Option Captured
  result : ResultCode
  results : Words
  overrun : Bool
  waitingWindow : Option WindowId
deriving DecidableEq, Repr

/-- A context after INIT (R121). -/
def Context.reset : Context where
  state := .empty
  staging := .zero
  captured := none
  result := .none
  results := .zero
  overrun := false
  waitingWindow := none

/-! ## Attention Unit (09_attention_and_inspection.md) -/

/-- The three attention reasons (R155). -/
inductive Reason where
  | suspended
  | slotLost
  | orphanReply
deriving DecidableEq, Repr

/-- A reason record (R155). -/
structure ReasonRecord where
  raised : Bool
  subject : Option Nat
  count : Nat
deriving DecidableEq, Repr

/-- A clear reason record (R155, R163). -/
def ReasonRecord.clear : ReasonRecord := ⟨false, none, 0⟩

/-- The three reason records of the Attention Unit (R155). -/
structure Attention where
  suspended : ReasonRecord
  slotLost : ReasonRecord
  orphanReply : ReasonRecord
deriving DecidableEq, Repr

/-- All three records clear (R163). -/
def Attention.clear : Attention := ⟨.clear, .clear, .clear⟩

/-! ## Input pins -/

/-- The levels of the input pins as the events have last brought them (log 13). -/
structure Pins where
  /-- INIT asserted. -/
  init : Bool
  /-- PRS asserted, by slot; index 0 stands for no line (R86). -/
  prs : Vector Bool 16
  /-- MODE straps, by slot (R87). -/
  mode : Vector Mode 16
deriving DecidableEq, Repr

/-! ## The machine -/

/-- The whole state of the part, and the queue of commands that wait to be run. -/
structure State where
  /-- Window Table. -/
  windows : Vector Window 64
  /-- Current-cycle record (R38). -/
  current : Option CurrentCycle
  /-- Backplane lines as they stand: driven in a selected cycle and in the part's own fault reply, and released
  between cycles (R35 to R37, R70, R169). -/
  lines : Lines
  /-- The model's own: the lines as the cycle of the latest bus event showed them. A cycle that begins and ends in one
  event is seen here (log 7). -/
  shown : Lines
  /-- Outstanding-read table, oldest first (R58). -/
  ort : List OrtEntry
  /-- Fault-reply queue, head first, by master and tag (R76). -/
  faultQueue : List (MasterId × Tag)
  /-- Mastership state (R77). -/
  mastership : Mastership
  /-- Slot records (R85). -/
  slots : Vector SlotRecord 16
  /-- Master records (R97). -/
  masters : Vector MasterRecord 8
  /-- Strike limit (R51, R100). -/
  strikeLimit : Nat
  /-- Attention-line selection, ATN0 to ATN7 or none (R100). -/
  selection : Option (Fin 8)
  /-- Command contexts (R103). -/
  contexts : Vector Context 8
  /-- Command queue, oldest first (R109). -/
  queue : List MasterId
  /-- Reason records (R155). -/
  attention : Attention
  /-- Input pins. -/
  pins : Pins
  /-- The model's own: commands waiting to be run, first in, first out. -/
  pending : List Instr
deriving DecidableEq, Repr

/-- The stops of the model. Each is an event that the spec says cannot arise in the state it meets, so each is
safe: the model allows nothing the part does not (log 2). -/
inductive Fault where
  /-- An address phase, a REPLY cycle or a grant arrives while a selected cycle or a tenure of the part holds the
  bus: "The backplane carries one cycle at a time" (R39, R65, R80, R164). Raised by the address-phase rows,
  REPLY_CYCLE and MASTERSHIP_GRANT. Safe. -/
  | busBusy
  /-- The engine is said to take a command that is not the one at the head of the command queue (R110). Raised by
  the take rows, BAD_COMMAND to RESOLVE. Safe. -/
  | notAtHead
  /-- A fault reply cycle is said to end and the part is driving none (R78). Raised by FAULT_REPLY_END. Safe. -/
  | noFaultReply
  /-- A PRS line is said to move to the level it already has, or the line of slot 0, which has none
  (R86, R89). Raised by PRESENCE_LOSS and PRESENCE_RETURN. Safe. -/
  | noEdge
  /-- INIT is said to be released and it is not asserted (R102). Raised by INIT_RELEASE. Safe. -/
  | initNotAsserted
deriving DecidableEq, Repr

/-- Refusals: no command has one. -/
inductive Refusal where
  /-- The command has no meaning in the model yet; raised by exec's arms only. Safe. -/
  | notModelled (mnemonic : String)
deriving DecidableEq, Repr

/-- The outcome of one command. -/
abbrev Result := Host.Outcome State Fault Refusal

/-- A slot found empty at the release of INIT (R102, Table 6-1). -/
def SlotRecord.empty : SlotRecord where
  present := false
  state := .absent
  mode := .directed
  ackLimit := Config.defaultAckLimit
  replyLimit := Config.defaultReplyLimit

/-- Slot 0 after INIT, its MODE line undriven (R102, R87). -/
def SlotRecord.systemCard : SlotRecord where
  present := true
  state := .online
  mode := .directed
  ackLimit := Config.defaultAckLimit
  replyLimit := Config.defaultReplyLimit

/-- The part right after reset: INIT has been asserted and released over a rack in which nothing drives the PRS and
MODE lines, which then read not present and DIRECTED (R169; DESIGN CHOICE, log 1). Every other field is as the
rules on INIT give it: R22, R41, R57, R84, R102, R121, R163. -/
def State.reset : State where
  windows := ((Vector.replicate 64 Window.cleared).set 0 Window.directoryPort).set 1 Window.boot
  current := none
  lines := .idle
  shown := .idle
  ort := []
  faultQueue := []
  mastership := .idle
  slots := (Vector.replicate 16 SlotRecord.empty).set 0 SlotRecord.systemCard
  masters := (Vector.replicate 8 ⟨true, false⟩).set 0 ⟨true, true⟩
  strikeLimit := Config.defaultStrikeLimit
  selection := none
  contexts := Vector.replicate 8 Context.reset
  queue := []
  attention := .clear
  pins := ⟨false, Vector.replicate 16 false, Vector.replicate 16 .directed⟩
  pending := []

end Sys2Proof.Machine
end

