-- ==== Sys2Proof/Machine/Operands.lean ====
section
/-!
DEFINITION. Codes and word layouts: the fields of operand words (Table 12-3), the codes of Tables 7-3, 7-5, 12-2 and
12-6, and the packing of result words (Tables 12-4 and 12-5) and port words (Table 12-1).
-/
namespace Sys2Proof.Machine

/-! ## Fields of words -/

/-- The field of a word at bits lo to lo + width - 1, as a number (R166: "read from those bits alone"). -/
def fieldOf (w : Word) (lo width : Nat) : Nat := w.toNat / 2 ^ lo % 2 ^ width

/-- One bit of a word. -/
def bitOf (w : Word) (i : Nat) : Bool := w.getLsbD i

/-- A value laid into a field at bits lo to lo + width - 1, as a number to be added into a word. -/
def lay (value lo width : Nat) : Nat := value % 2 ^ width * 2 ^ lo

/-- A flag laid into one bit. -/
def layBit (b : Bool) (lo : Nat) : Nat := if b then 2 ^ lo else 0

/-- A word from fields laid out apart: "Bits that no field names read zero" (R167). -/
def pack (fields : List Nat) : Word := BitVec.ofNat 16 (fields.foldr (· + ·) 0)

/-- A word holding one number (R166: "A field that Table 12-3 gives a whole word"). -/
def wordOf (n : Nat) : Word := BitVec.ofNat 16 n

/-- A result whose word 0 alone is named. -/
def Words.one (w0 : Word) : Words := ⟨w0, 0, 0, 0, 0⟩

/-- Word n of the five. -/
def Words.get (ws : Words) (n : Fin 5) : Word :=
  match n with
  | 0 => ws.w0
  | 1 => ws.w1
  | 2 => ws.w2
  | 3 => ws.w3
  | 4 => ws.w4

/-- The five with word n replaced (R104). -/
def Words.put (ws : Words) (n : Fin 5) (v : Word) : Words :=
  match n with
  | 0 => { ws with w0 := v }
  | 1 => { ws with w1 := v }
  | 2 => { ws with w2 := v }
  | 3 => { ws with w3 := v }
  | 4 => { ws with w4 := v }

/-- A number as an index of a table of n records, when it names one. -/
def indexOf (n value : Nat) : Option (Fin n) :=
  if h : value < n then some ⟨value, h⟩ else none

/-- The word a WRITE hands to the owning block: the data, or bits 7 to 0 of it with bits 15 to 8 zero in a byte
cycle (R165). -/
def writtenWord (data : Word) : Width → Word
  | .word => data
  | .byte => BitVec.ofNat 16 (data.toNat % 256)

/-! ## Codes -/

/-- The commands the engine takes (Table 7-3, all but ABANDON, which is never queued). -/
inductive Command where
  | claim
  | resize
  | move
  | restack
  | grant
  | handover
  | retire
  | reinstate
  | setSlot
  | slotOnline
  | slotOffline
  | setMaster
  | tune
  | inspect
  | resolve
deriving DecidableEq, Repr

/-- The command a captured code names (Table 7-3): "The code of a command is the whole 16-bit GO data" (R111). -/
def commandOf (code : Word) : Option Command :=
  match code.toNat with
  | 0x01 => some .claim
  | 0x02 => some .resize
  | 0x03 => some .move
  | 0x04 => some .restack
  | 0x05 => some .grant
  | 0x06 => some .handover
  | 0x07 => some .retire
  | 0x08 => some .reinstate
  | 0x10 => some .setSlot
  | 0x11 => some .slotOnline
  | 0x12 => some .slotOffline
  | 0x13 => some .setMaster
  | 0x14 => some .tune
  | 0x18 => some .inspect
  | 0x19 => some .resolve
  | _ => none

/-- The code of ABANDON (Table 7-3, R107). -/
def abandonCode : Word := 0x001F

/-- AST values (Table 12-6). -/
def statusCode : Status → Nat
  | .ok => 0
  | .accept => 1
  | .unmapped => 2
  | .denied => 3
  | .silent => 4
  | .retry => 5
  | .conflict => 6
  | .withdrawn => 7

/-- A fault reply carries its fault status as an acknowledge status (R78, R168). -/
def FaultStatus.status : FaultStatus → Status
  | .silent => .silent
  | .withdrawn => .withdrawn

/-- Context state codes (Table 12-2). -/
def ContextState.code : ContextState → Nat
  | .empty => 0
  | .queued => 1
  | .active => 2
  | .waiting => 3
  | .complete => 4

/-- Window state codes (Table 12-2). -/
def WinState.code : WinState → Nat
  | .free => 0
  | .active => 1
  | .held => 2
  | .draining => 3
  | .suspended => 4

/-- Space codes in INSPECT (Table 12-2). -/
def inspectSpaceCode : Space → Nat
  | .mem => 0
  | .io => 1

/-- Space codes in operands (Table 12-2). -/
def operandSpace (code : Nat) : Option Space :=
  match code with
  | 1 => some .mem
  | 2 => some .io
  | _ => none

/-- Slot state codes (Table 12-2). -/
def SlotState.code : SlotState → Nat
  | .absent => 0
  | .offline => 1
  | .online => 2

/-- Mode codes (Table 12-2), as the one bit they are. -/
def modeBit : Mode → Bool
  | .directed => false
  | .selfDecoding => true

/-- The mode that a strap level gives; an undriven line reads DIRECTED (R87; log 13). -/
def modeOfLevel (level : Bool) : Mode := if level then .selfDecoding else .directed

/-- Line selection codes: 1 none, 2 to 9 ATN0 to ATN7 (Table 12-2). -/
def selectionCode : Option (Fin 8) → Nat
  | none => 1
  | some n => n.val + 2

/-- Entry state codes (Table 12-2). -/
def EntryState.code : EntryState → Nat
  | .reserved => 1
  | .waiting _ => 2
  | .expired _ => 3

/-- Fault status codes, 0 when absent (Table 12-2). -/
def EntryState.faultCode : EntryState → Nat
  | .reserved => 0
  | .waiting _ => 0
  | .expired f => statusCode f.status

/-- Result codes (Table 7-5). -/
def ResultCode.code : ResultCode → Nat
  | .none => 0
  | .done => 1
  | .badCommand => 2
  | .noAuthority => 3
  | .noWindow => 4
  | .protectedEntry => 5
  | .badRange => 6
  | .overlap => 7
  | .tableFull => 8
  | .windowBusy => 9
  | .badSlot => 10
  | .badState => 11
  | .lastSupervisor => 12
  | .abandoned => 13
  | .withdrawn => 14
  | .disabled => 15
  | .badOperand => 16

/-! ## Shared layouts -/

/-- A read set and a write set in one word (Tables 12-3, 12-4, 12-5). -/
def setsWord (readSet writeSet : MasterSet) : Word :=
  pack [lay readSet.toNat 0 8, lay writeSet.toNat 8 8]

/-- The read set of such a word. -/
def readSetOf (w : Word) : MasterSet := BitVec.ofNat 8 (fieldOf w 0 8)

/-- The write set of such a word. -/
def writeSetOf (w : Word) : MasterSet := BitVec.ofNat 8 (fieldOf w 8 8)

/-- A unit number with its presence in bit 15: a target, a pending target or an LOF value (Tables 12-4, 12-5). -/
def optionalUnitWord : Option Nat → Word
  | none => 0
  | some u => pack [lay u 0 12, layBit true 15]

/-- The five result words of a RESIZE or a MOVE that is DONE (R131, Table 12-4). -/
def shapeWords (id : WindowId) (win : Window) : Words :=
  ⟨wordOf id.val, wordOf win.base, wordOf win.length, wordOf win.slot.val, optionalUnitWord win.target⟩

/-- The result words of a RETIRE that is DONE (R143, Table 12-4). -/
def retireWords (id : WindowId) (win : Window) : Words :=
  ⟨wordOf id.val, wordOf win.base, wordOf win.length, wordOf win.slot.val, 0⟩

/-- The bounds of R2 as the engine checks them on a base, a length and a target (R122). -/
def rangeOk (base length : Nat) (target : Option Nat) : Bool :=
  decide (base < Config.units) && decide (1 ≤ length) && decide (length ≤ Config.units)
    && decide (base + length ≤ Config.units)
    && match target with
      | none => true
      | some t => decide (t < Config.units) && decide (t + length ≤ Config.units)

/-! ## Operand words (Table 12-3) -/

/-- The target operand: read only when its flag says present (R122). -/
def targetOperand (present : Bool) (w : Word) : Option Nat := if present then some w.toNat else none

/-- The operands of a CLAIM that name a space, a layer and a slot (R122, R166). -/
structure ClaimOperands where
  space : Space
  layer : Fin 4
  slot : SlotId
  base : Nat
  length : Nat
  readSet : MasterSet
  writeSet : MasterSet
  target : Option Nat
deriving DecidableEq, Repr

/-- CLAIM: word 0 bits 1..0 space, 7..4 layer, 12..8 slot, 15 target present; word 1 base; word 2 length; word 3
sets; word 4 target. None when space, layer or slot is out of its range: BAD-OPERAND (R122). -/
def claimOperands (ws : Words) : Option ClaimOperands :=
  match operandSpace (fieldOf ws.w0 0 2), indexOf 4 (fieldOf ws.w0 4 4), indexOf 16 (fieldOf ws.w0 8 5) with
  | some space, some layer, some slot =>
    some ⟨space, layer, slot, ws.w1.toNat, ws.w2.toNat, readSetOf ws.w3, writeSetOf ws.w3,
      targetOperand (bitOf ws.w0 15) ws.w4⟩
  | _, _, _ => none

/-- MOVE: word 2 bits 4..0 new slot; none when it is above 15: BAD-OPERAND (R129). -/
def moveSlotOperand (ws : Words) : Option SlotId := indexOf 16 (fieldOf ws.w2 0 5)

/-- MOVE: word 3 the new target when bit 15 of word 2 says present (R129). -/
def moveTargetOperand (ws : Words) : Option Nat := targetOperand (bitOf ws.w2 15) ws.w3

/-- What a TUNE asks of the attention-line selection: leave it, or set it (Table 12-2). -/
inductive SelectionOperand where
  | leave
  | set (selection : Option (Fin 8))
deriving DecidableEq, Repr

/-- TUNE: word 1, 0 leave unchanged, 1 none, 2 to 9 ATN0 to ATN7; above 9 is BAD-OPERAND (R100, R166). -/
def selectionOperand (w : Word) : Option SelectionOperand :=
  match w.toNat with
  | 0 => some .leave
  | 1 => some (.set none)
  | n + 2 => (indexOf 8 n).map fun line => .set (some line)

/-- What an INSPECT names (R158). -/
inductive InspectOperand where
  | windowRecord (id : WindowId)
  | windowWait (id : WindowId)
  | windowEntry (id : WindowId) (n : Nat)
  | slot (id : SlotId)
  | master (id : MasterId)
  | attention
deriving DecidableEq, Repr

/-- INSPECT: word 0 kind, 1 WINDOW, 2 SLOT, 3 MASTER, 4 ATTENTION; word 1 number; word 2 page, 0 to 33 for WINDOW
and 0 for the rest. None is BAD-OPERAND (R158). The number is not read for ATTENTION. -/
def inspectOperand (ws : Words) : Option InspectOperand :=
  match ws.w0.toNat with
  | 1 =>
    match indexOf 64 ws.w1.toNat, ws.w2.toNat with
    | some id, 0 => some (.windowRecord id)
    | some id, 1 => some (.windowWait id)
    | some id, n + 2 => if n ≤ 31 then some (.windowEntry id n) else none
    | none, _ => none
  | 2 => if ws.w2 = 0 then (indexOf 16 ws.w1.toNat).map .slot else none
  | 3 => if ws.w2 = 0 then (indexOf 8 ws.w1.toNat).map .master else none
  | 4 => if ws.w2 = 0 then some .attention else none
  | _ => none

/-- The operands of a RESOLVE (R161). -/
structure ResolveOperands where
  space : Space
  isWrite : Bool
  master : MasterId
  unit : Nat
deriving DecidableEq, Repr

/-- RESOLVE kinds: 1 READ, 2 WRITE; any other is BAD-OPERAND (R161, R166). -/
def resolveKind (code : Nat) : Option Bool :=
  match code with
  | 1 => some false
  | 2 => some true
  | _ => none

/-- RESOLVE: word 0 bits 1..0 space, 5..4 kind, 11..8 master; word 1 unit (R161). None is BAD-OPERAND. -/
def resolveOperands (ws : Words) : Option ResolveOperands :=
  match operandSpace (fieldOf ws.w0 0 2), resolveKind (fieldOf ws.w0 4 2), indexOf 8 (fieldOf ws.w0 8 4) with
  | some space, some isWrite, some master =>
    if ws.w1.toNat < Config.units then some ⟨space, isWrite, master, ws.w1.toNat⟩ else none
  | _, _, _ => none

end Sys2Proof.Machine
end

