-- ==== Sys2Proof/Machine/Flags.lean ====
section
/-!
DEFINITION. The flags of the part: the attention reasons and line (R155 to R157), and the overrun flag of a context
(R108).
-/
namespace Sys2Proof.Machine

/-- A raise of one reason: the first gives the subject, later ones keep it; the count stays at 255 (R155). -/
def ReasonRecord.raise (r : ReasonRecord) (subject : Nat) : ReasonRecord :=
  if r.raised then { r with count := min (r.count + 1) Config.countMax } else ⟨true, some subject, 1⟩

/-- The record of a reason. -/
def Attention.get (a : Attention) : Reason → ReasonRecord
  | .suspended => a.suspended
  | .slotLost => a.slotLost
  | .orphanReply => a.orphanReply

/-- The records with one reason's record replaced. -/
def Attention.put (a : Attention) (r : Reason) (record : ReasonRecord) : Attention :=
  match r with
  | .suspended => { a with suspended := record }
  | .slotLost => { a with slotLost := record }
  | .orphanReply => { a with orphanReply := record }

/-- The Attention Unit raises a reason handed over with a subject (R155). -/
def State.raise (s : State) (r : Reason) (subject : Nat) : State :=
  { s with attention := s.attention.put r ((s.attention.get r).raise subject) }

/-- The bit of the ATTENTION port that stands for a reason, on read and on write (Table 12-1). -/
def Reason.bit : Reason → Nat
  | .suspended => 0
  | .slotLost => 1
  | .orphanReply => 2

/-- The records after a clear that names reasons in its data; positions that name no reason are ignored (R156). -/
def Attention.clearNamed (a : Attention) (data : Word) : Attention where
  suspended := if bitOf data (Reason.bit .suspended) then .clear else a.suspended
  slotLost := if bitOf data (Reason.bit .slotLost) then .clear else a.slotLost
  orphanReply := if bitOf data (Reason.bit .orphanReply) then .clear else a.orphanReply

/-- Some reason is raised. -/
def Attention.anyRaised (a : Attention) : Bool :=
  a.suspended.raised || a.slotLost.raised || a.orphanReply.raised

/-- The level of attention line n as the part drives it: the selected line is asserted while at least one reason is
raised, and every other is released (R101, R157). -/
def State.atnAsserted (s : State) (n : Fin 8) : Bool :=
  decide (s.selection = some n) && s.attention.anyRaised

/-- The ATTENTION port word: bits 0 to 2 the flags, bits 11..8 the line selection (Table 12-1). -/
def State.attentionWord (s : State) : Word :=
  pack [layBit s.attention.suspended.raised 0, layBit s.attention.slotLost.raised 1,
    layBit s.attention.orphanReply.raised 2, lay (selectionCode s.selection) 8 4]

/-- One reason word of INSPECT with the ATTENTION selector (Table 12-5). -/
def ReasonRecord.word (r : ReasonRecord) : Word :=
  pack [lay r.count 0 8, lay (r.subject.getD 0) 8 6, layBit r.subject.isSome 14, layBit r.raised 15]

/-- The context with its overrun flag set: a GO or an ABANDON that had no effect (R107, R118). -/
def Context.withOverrun (c : Context) : Context := { c with overrun := true }

end Sys2Proof.Machine
end

