-- ==== Sys2Proof/Machine/Ops.lean ====
section
/-!
DEFINITION. The shared operations of the blocks: record access, coverage and overlap, in-flight references, strikes,
completions, the drain check, removals from the ORT, forced drains, the end of a cycle, and the clocks.
-/
namespace Sys2Proof.Machine

/-! ## Record access -/

/-- The record of a window. -/
def State.window (s : State) (w : WindowId) : Window := s.windows[w]

/-- The state with one window record replaced. -/
def State.setWindow (s : State) (w : WindowId) (r : Window) : State :=
  { s with windows := s.windows.set w r }

/-- The context of a master. -/
def State.context (s : State) (m : MasterId) : Context := s.contexts[m]

/-- The state with one context replaced. -/
def State.setContext (s : State) (m : MasterId) (c : Context) : State :=
  { s with contexts := s.contexts.set m c }

/-- The record of a slot. -/
def State.slot (s : State) (k : SlotId) : SlotRecord := s.slots[k]

/-- The state with one slot record replaced. -/
def State.setSlot (s : State) (k : SlotId) (r : SlotRecord) : State :=
  { s with slots := s.slots.set k r }

/-- The record of a master. -/
def State.master (s : State) (m : MasterId) : MasterRecord := s.masters[m]

/-- The state with one master record replaced. -/
def State.setMaster (s : State) (m : MasterId) (r : MasterRecord) : State :=
  { s with masters := s.masters.set m r }

/-- The lines are driven, in a cycle that goes on. -/
def State.withLines (s : State) (l : Lines) : State := { s with lines := l, shown := l }

/-- A cycle that showed these lines is over, and every line is released (R35 to R37, R70, R169; log 7). -/
def State.releaseLines (s : State) (l : Lines) : State := { s with lines := .idle, shown := l }

/-! ## Coverage, layers and the overlap law -/

/-- A unit lies in a range of `length` units from `base` (R2). -/
def inRange (base length unit : Nat) : Bool := decide (base ≤ unit) && decide (unit < base + length)

/-- Two ranges, each of at least one unit, have a common unit. -/
def rangesMeet (base₁ length₁ base₂ length₂ : Nat) : Bool :=
  decide (base₁ < base₂ + length₂) && decide (base₂ < base₁ + length₁)

/-- The unit lies in the window's pending range, which counts while the window is HELD (R16). -/
def Window.inPending (win : Window) (unit : Nat) : Bool :=
  match win.state, win.change with
  | .held, some c => inRange c.base c.length unit
  | _, _ => false

/-- The window covers the unit of the space: the current range, and while HELD the pending range (R16). -/
def Window.covers (win : Window) (space : Space) (unit : Nat) : Bool :=
  win.state != .free && win.space == space && (inRange win.base win.length unit || win.inPending unit)

/-- A range meets the window's pending range, while it is HELD (R17). -/
def Window.pendingMeets (win : Window) (base length : Nat) : Bool :=
  match win.state, win.change with
  | .held, some c => rangesMeet base length c.base c.length
  | _, _ => false

/-- A range at a layer of a space meets the occupation of the window (R17). -/
def Window.occupies (win : Window) (space : Space) (layer : Fin 4) (base length : Nat) : Bool :=
  win.state != .free && win.space == space && win.layer == layer
    && (rangesMeet base length win.base win.length || win.pendingMeets base length)

/-- Some window other than `own` occupies units of the range at the layer: the OVERLAP check (R17). -/
def State.overlaps (s : State) (own : Option WindowId) (space : Space) (layer : Fin 4) (base length : Nat) : Bool :=
  (List.finRange 64).any fun w => own != some w && (s.window w).occupies space layer base length

/-- The lowest-numbered window that covers the unit at a layer; by R17 there is at most one (log 12). -/
def State.coveringAt (s : State) (space : Space) (unit : Nat) (layer : Fin 4) : Option WindowId :=
  (List.finRange 64).find? fun w => (s.window w).covers space unit && (s.window w).layer == layer

/-- The top window of a unit: the covering window at the highest layer (R16). -/
def State.topWindow (s : State) (space : Space) (unit : Nat) : Option WindowId :=
  [3, 2, 1, 0].findSome? (s.coveringAt space unit)

/-- The lowest-numbered FREE entry among 1 to 63 (R18). -/
def State.lowestFree (s : State) : Option WindowId :=
  (List.finRange 64).find? fun w => w != 0 && (s.window w).state == .free

/-- The number of FREE entries among 1 to 63 (R18, R30). -/
def State.freeEntries (s : State) : Nat :=
  (List.finRange 64).countP fun w => w != 0 && (s.window w).state == .free

/-- The unit number the serving card is shown: target + (unit - base), or the unit itself (R3, R36). -/
def Window.renumber (win : Window) (unit : Nat) : Nat :=
  match win.target with
  | none => unit
  | some t => t + (unit - win.base)

/-! ## In-flight references (R10) -/

/-- The ORT entries naming the window, in any state. -/
def State.refCount (s : State) (w : WindowId) : Nat := s.ort.countP (·.window == w)

/-- The current-cycle mark of the window. -/
def State.marked (s : State) (w : WindowId) : Bool :=
  match s.current with
  | some c => c.window == w
  | none => false

/-- "The window has no references when the count is 0 and the mark is clear." -/
def State.unreferenced (s : State) (w : WindowId) : Bool := s.refCount w == 0 && !s.marked w

/-! ## Strikes (R48, R49) -/

/-- The window with one more strike. -/
def Window.struck (win : Window) : Window := { win with strikes := win.strikes + 1 }

/-- The window suspended: every other field kept (R52). -/
def Window.suspend (win : Window) : Window := { win with state := .suspended }

/-- A strike handed to a window: it counts against an ACTIVE window only, and suspends it when strikes then equal the
strike limit, raising SUSPENDED with the window's id (R48, R52). -/
def State.strike (s : State) (w : WindowId) : State :=
  let win := s.window w
  if win.state = .active then
    if win.strikes + 1 = s.strikeLimit then (s.setWindow w win.struck.suspend).raise .suspended w.val
    else s.setWindow w win.struck
  else s

/-- The window with its strikes at 0. -/
def Window.unstruck (win : Window) : Window := { win with strikes := 0 }

/-- A strike clear handed to a window: it acts on an ACTIVE window only (R49). -/
def State.strikeClear (s : State) (w : WindowId) : State :=
  let win := s.window w
  if win.state = .active then s.setWindow w win.unstruck else s

/-! ## Completions (R113, R115) -/

/-- A context completed with a result: the captured command and the waiting window become absent, the overrun flag is
not changed (R113, R115). -/
def Context.completed (c : Context) (code : ResultCode) (results : Words) : Context :=
  { c with state := .complete, captured := none, result := code, results := results, waitingWindow := none }

/-- The Command Engine completes a master's context. -/
def State.complete (s : State) (m : MasterId) (code : ResultCode) (results : Words) : State :=
  s.setContext m ((s.context m).completed code results)

/-- The completion handed for a window's waiting context, when it has one (R115). -/
def State.completeWaiter (s : State) (waiter : Option MasterId) (code : ResultCode) (results : Words) : State :=
  match waiter with
  | some m => s.complete m code results
  | none => s

/-! ## The drain check (R145) -/

/-- The window returned to ACTIVE from HELD with its change dropped or used up (R8, R117, R133, R135). -/
def Window.released (win : Window) : Window := { win with state := .active, change := none, waiting := none }

/-- The window with its pending values taken (R133 step 1). -/
def Window.reshaped (win : Window) (c : PendingChange) : Window :=
  { win with base := c.base, length := c.length, slot := c.slot, target := c.target }

/-- The command whose context waits on the window, by its captured code (R114; DEDUCED, log 14). -/
def State.heldCommand (s : State) (win : Window) : Option Command :=
  match win.waiting with
  | some m => (s.context m).captured.bind fun c => commandOf c.code
  | none => none

/-- A HELD window takes its pending values, returns to ACTIVE and its waiting context completes DONE; strikes become
0 for a MOVE and are kept for a shrinking RESIZE (R133). -/
def State.applyChange (s : State) (w : WindowId) : State :=
  let win := s.window w
  match win.change with
  | some c =>
    let shaped := (win.reshaped c).released
    let new := if s.heldCommand win = some .move then shaped.unstruck else shaped
    (s.setWindow w new).completeWaiter win.waiting .done (shapeWords w new)
  | none => s

/-- A DRAINING window becomes FREE: a waiting RETIRE completes DONE, then the record is cleared (R147). -/
def State.becomeFree (s : State) (w : WindowId) : State :=
  let win := s.window w
  (s.completeWaiter win.waiting .done (retireWords w win)).setWindow w .cleared

/-- The drain check on one window (R145). -/
def State.drainCheck (s : State) (w : WindowId) : State :=
  if s.unreferenced w then
    match (s.window w).state with
    | .held => s.applyChange w
    | .draining => s.becomeFree w
    | .free => s
    | .active => s
    | .suspended => s
  else s

/-! ## The outstanding-read table -/

/-- Entries are named by their master and tag (R58). -/
def OrtEntry.key (e : OrtEntry) : MasterId × Tag := (e.master, e.tag)

/-- The entry of a master and tag; R58 allows at most one. -/
def State.entry (s : State) (k : MasterId × Tag) : Option OrtEntry := s.ort.find? (·.key == k)

/-- The state of the entry of a master and tag replaced; it keeps its place in the creation order (R58). -/
def State.setEntryState (s : State) (k : MasterId × Tag) (st : EntryState) : State :=
  { s with ort := s.ort.map fun e => if e.key == k then { e with state := st } else e }

/-- The entry leaves the ORT, and the fault-reply queue when it stands there; the others keep their order
(R58, R67, R76, R81). -/
def State.dropEntry (s : State) (k : MasterId × Tag) : State :=
  { s with ort := s.ort.filter (·.key != k), faultQueue := s.faultQueue.filter (· != k) }

/-- The removal of an entry: it leaves the table, and the drain check of its window follows (R81). -/
def State.removeEntry (s : State) (e : OrtEntry) : State := (s.dropEntry e.key).drainCheck e.window

/-- The mastership request is asserted when the tracker is IDLE; REQUESTING and HOLDING stay (R77). -/
def State.assertRequest (s : State) : State :=
  match s.mastership with
  | .idle => { s with mastership := .requesting }
  | .requesting => s
  | .holding => s

/-- The request is released when the fault-reply queue has become empty while REQUESTING (R77). -/
def State.releaseRequest (s : State) : State :=
  match s.mastership, s.faultQueue with
  | .requesting, [] => { s with mastership := .idle }
  | _, _ => s

/-- The mastership request line: asserted exactly in REQUESTING (R77). -/
def State.requestAsserted (s : State) : Bool := s.mastership == .requesting

/-! ## The end of a cycle (R38, R43 to R45, R91) -/

/-- The master sees the status on AST, the lines are released, the current-cycle record is discarded, and the drain
check of its window follows the clearing of the mark (R43 steps 4 and 5). -/
def State.endCycle (s : State) (c : CurrentCycle) (ast : AstLines) : State :=
  ({ s.releaseLines { s.lines with ast := ast } with current := none }).drainCheck c.window

/-- The reserved entry of a SPLIT READ's cycle is removed (R62). -/
def State.removeReserved (s : State) (c : CurrentCycle) : State :=
  match c.kind with
  | .splitRead tag =>
    match s.entry (c.master, tag) with
    | some e => s.removeEntry e
    | none => s
  | .read => s
  | .write => s

/-! ## Forced drains (R90, R148) -/

/-- The window made DRAINING by a forced drain: no pending change, no waiting context (R90). -/
def Window.forceDrained (win : Window) : Window := { win with state := .draining, change := none, waiting := none }

/-- The pending change of the window names slot k as its new slot. -/
def Window.boundFor (win : Window) (k : SlotId) : Bool :=
  match win.change with
  | some c => c.slot == k
  | none => false

/-- A forced drain of slot k as it meets one window (Table 9-2). -/
def State.forceDrainOne (k : SlotId) (s : State) (w : WindowId) : State :=
  let win := s.window w
  match win.state with
  | .free => s
  | .active => if win.slot = k then (s.setWindow w win.forceDrained).drainCheck w else s
  | .suspended => if win.slot = k then (s.setWindow w win.forceDrained).drainCheck w else s
  | .draining => if win.slot = k then s.drainCheck w else s
  | .held =>
    if win.slot = k then
      ((s.setWindow w win.forceDrained).completeWaiter win.waiting .withdrawn (.one (wordOf w.val))).drainCheck w
    else if win.boundFor k then
      (s.setWindow w win.released).completeWaiter win.waiting .badSlot (.one (wordOf w.val))
    else s

/-- A forced drain on slot k, over every window; windows have no order between them (R21, R148). -/
def State.forceDrain (s : State) (k : SlotId) : State :=
  (List.finRange 64).foldl (State.forceDrainOne k) s

/-- The windows a forced drain of slot k takes into DRAINING from ACTIVE, SUSPENDED or HELD (R95, R148). -/
def State.drainable (s : State) (k : SlotId) : Nat :=
  (List.finRange 64).countP fun w =>
    (s.window w).slot == k
      && ((s.window w).state == .active || (s.window w).state == .suspended || (s.window w).state == .held)

/-! ## The bus and the INIT line -/

/-- The bus is free for a new cycle: no selected cycle and no tenure of the part (R39, R164). -/
def State.busFree (s : State) : Bool := s.current.isNone && s.mastership != .holding

/-- While INIT is asserted the part is held in its INIT state and takes no other event (R86, R169; DEDUCED, log 3). -/
def State.whileRunning (s : State) (k : Result) : Result := if s.pins.init then .next s else k

/-- A bus event is taken on a free bus only (R39, R65; log 2). -/
def State.onFreeBus (s : State) (k : Result) : Result := if s.busFree then k else .fault .busBusy

/-! ## The clocks (R42, R63) -/

/-- A deadline with 0.25 us less to run. -/
def EntryState.tick : EntryState → EntryState
  | .reserved => .reserved
  | .waiting d => .waiting (d - 1)
  | .expired f => .expired f

/-- 0.25 us pass: the acknowledge timer and every deadline run down by one unit and stop at 0, where their expiry
is due (R42, R63; DESIGN CHOICE, log 5). -/
def State.tick (s : State) : State :=
  { s with
    current := s.current.map fun c => { c with timer := c.timer - 1 }
    ort := s.ort.map fun e => { e with state := e.state.tick } }

end Sys2Proof.Machine
end

