-- ==== Sys2Proof/Machine/Resolve.lean ====
section
/-!
DEFINITION. Resolution of an address phase (R23 to R36), the directory port as served by the part (R29 to R31, R165),
and what a port write does at its owning block.
-/
namespace Sys2Proof.Machine

/-! ## Parts of an address phase -/

/-- The space of an address. -/
def spaceOf : BusAddress → Space
  | .mem _ => .mem
  | .io _ => .io

/-- The unit of an address: the byte address divided by 4096, or the port divided by 16 (R23). -/
def unitOf : BusAddress → Nat
  | .mem a => a.toNat / 4096
  | .io p => p.toNat / 16

/-- The cycle is a WRITE: check 4 consults the write set (R28). -/
def isWrite : CycleKind → Bool
  | .read => false
  | .write _ => true
  | .splitRead _ => false

/-- The cycle is a SPLIT READ. -/
def isSplit : CycleKind → Bool
  | .read => false
  | .write _ => false
  | .splitRead _ => true

/-! ## Checks 1 to 5 and 7 (Table 3-1) -/

/-- What the checks that read only the Window Table and the Registry decide. -/
inductive Verdict where
  /-- Check 1: the master is disabled. -/
  | disabled
  /-- Check 2: no covering window. -/
  | unmapped
  /-- Check 3: the top window's state answers with this status. -/
  | byState (w : WindowId) (status : Status)
  /-- Check 4: the master has no right. -/
  | noRight (w : WindowId)
  /-- Check 5: the directory port. -/
  | port
  /-- Check 7: the serving slot of this window. -/
  | select (w : WindowId)
deriving DecidableEq, Repr

/-- The status with which a window's state answers, when it is not ACTIVE (R27). A FREE window covers nothing and
answers no cycle (R15). -/
def stateAnswer : WinState → Option Status
  | .suspended => some .silent
  | .held => some .retry
  | .draining => some .withdrawn
  | .active => none
  | .free => none

/-- The master is in the window's read set, or for a WRITE in its write set (R28). -/
def Window.admits (win : Window) (m : MasterId) (write : Bool) : Bool :=
  if write then win.writeSet.getLsbD m.val else win.readSet.getLsbD m.val

/-- Checks 1, 2, 3, 4, 5 and 7 in order for a unit of a space (R24, R26 to R29, R33). -/
def State.verdict (s : State) (m : MasterId) (space : Space) (unit : Nat) (write : Bool) : Verdict :=
  if (s.master m).enabled = false then .disabled
  else
    match s.topWindow space unit with
    | none => .unmapped
    | some w =>
      match stateAnswer (s.window w).state with
      | some status => .byState w status
      | none =>
        if (s.window w).admits m write then
          if w = 0 then .port else .select w
        else .noRight w

/-! ## The lines (R34 to R37, Table 3-3) -/

/-- Every SELF-mode slot quieted but the one given, if any (R35). -/
def State.quiet (s : State) (but : Option SlotId) : Vector Bool 16 :=
  Vector.ofFn fun k => (s.slot k).mode == .selfDecoding && but != some k

/-- The part answers a cycle itself, and the cycle ends (R23, R37). -/
def State.answer (s : State) (status : Status) : State :=
  s.releaseLines { Lines.idle with qt := s.quiet none, ast := .byPart status }

/-- The part serves a port cycle with OK, driving a word on the data lines in a READ, and the
cycle ends (R29, R37). -/
def State.serve (s : State) (data : Option Word) : State :=
  s.releaseLines { Lines.idle with qt := s.quiet none, ast := .byPart .ok, data := data }

/-- Check 7: the serving slot is steered, the current-cycle record made and the timer started (R33 to R36, R42). -/
def State.select (s : State) (m : MasterId) (kind : CurrentKind) (w : WindowId) (unit : Nat) : State :=
  let win := s.window w
  let card := s.slot win.slot
  { s with current := some ⟨m, kind, w, win.slot, card.ackLimit⟩ }.withLines
    { Lines.idle with
      sel := if card.mode = Mode.directed then some win.slot else none
      qt := s.quiet (some win.slot)
      lof := some (BitVec.ofNat 12 (win.renumber unit)) }

/-! ## Check 6 (R32) -/

/-- The entry that check 6 reserves. -/
def State.reserve (s : State) (m : MasterId) (tag : Tag) (w : WindowId) (unit : Nat) : State :=
  { s with ort := s.ort ++ [⟨m, tag, w, (s.window w).slot, unit, .reserved⟩] }

/-- A SPLIT READ that reached an ACTIVE window: CONFLICT for a duplicate pair, RETRY for a full table, otherwise an
entry is reserved and the cycle selected (R32). -/
def State.splitPhase (s : State) (m : MasterId) (tag : Tag) (w : WindowId) (unit : Nat) : State :=
  if (s.entry (m, tag)).isSome then s.answer .conflict
  else if Config.ortCapacity ≤ s.ort.length then s.answer .retry
  else (s.reserve m tag w unit).select m (.splitRead tag) w unit

/-! ## The directory port: reading (R30, Table 12-1) -/

/-- CONTEXT: bits 2..0 state, bit 7 overrun, bits 12..8 result code. -/
def Context.word (c : Context) : Word :=
  pack [lay c.state.code 0 3, layBit c.overrun 7, lay c.result.code 8 5]

/-- Result words read as written while the context is COMPLETE and as zero in every other state (R120). -/
def Context.resultWord (c : Context) (n : Fin 5) : Word :=
  if c.state = .complete then c.results.get n else 0

/-- OCCUPANCY: bits 5..0 FREE entries, 11..6 ORT entries, 15..12 queue length (R162, Table 12-1). -/
def State.occupancyWord (s : State) : Word :=
  pack [lay s.freeEntries 0 6, lay s.ort.length 6 6, lay s.queue.length 12 4]

/-- The eight even ports (Table 3-2). -/
inductive Port where
  | context
  | word (n : Fin 5)
  | attention
  | occupancy
deriving DecidableEq, Repr

/-- The port of an even address in granule 4095 (Table 3-2). -/
def portOf (p : BitVec 16) : Port :=
  match p.toNat % 16 / 2 with
  | 0 => .context
  | 1 => .word 0
  | 2 => .word 1
  | 3 => .word 2
  | 4 => .word 3
  | 5 => .word 4
  | 6 => .attention
  | _ => .occupancy

/-- The word of a port as a master reads it (R30). -/
def State.portWord (s : State) (m : MasterId) : Port → Word
  | .context => (s.context m).word
  | .word n => (s.context m).resultWord n
  | .attention => s.attentionWord
  | .occupancy => s.occupancyWord

/-! ## The directory port: writing (R31) -/

/-- The context after an accepted GO: the code and the staging words captured, result NONE, result words zero,
overrun clear, QUEUED (R106). -/
def Context.queuedWith (c : Context) (code : Word) : Context where
  state := .queued
  staging := c.staging
  captured := some ⟨code, c.staging⟩
  result := .none
  results := .zero
  overrun := false
  waitingWindow := none

/-- A GO whose data is not ABANDON's: accepted into an EMPTY or COMPLETE context, else overrun is set
(R106, R107). -/
def State.goAccept (s : State) (m : MasterId) (code : Word) : State :=
  let c := s.context m
  match c.state with
  | .empty => { s.setContext m (c.queuedWith code) with queue := s.queue ++ [m] }
  | .complete => { s.setContext m (c.queuedWith code) with queue := s.queue ++ [m] }
  | .queued => s.setContext m c.withOverrun
  | .active => s.setContext m c.withOverrun
  | .waiting => s.setContext m c.withOverrun

/-- The captured command is one whose wait ABANDON undoes: a MOVE or a RESIZE (R117). -/
def Context.undoable (c : Context) : Bool :=
  match c.captured.bind fun x => commandOf x.code with
  | some .move => true
  | some .resize => true
  | _ => false

/-- The undo of a wait: the window returns to ACTIVE without its change, the context completes ABANDONED with the
window's id (R117). -/
def State.undoWait (s : State) (m : MasterId) (w : WindowId) : State :=
  (s.setWindow w (s.window w).released).complete m .abandoned (.one (wordOf w.val))

/-- ABANDON on the writing master's context, by the context's state (R116 to R118, Table 7-4). -/
def State.abandonWrite (s : State) (m : MasterId) : State :=
  let c := s.context m
  match c.state, c.waitingWindow with
  | .queued, _ => { s.complete m .abandoned .zero with queue := s.queue.filter (· != m) }
  | .waiting, some w => if c.undoable then s.undoWait m w else s.setContext m c.withOverrun
  | _, _ => s.setContext m c.withOverrun

/-- A WRITE to 0xFFF0: ABANDON when the data is 0x001F, else GO (R107). -/
def State.goWrite (s : State) (m : MasterId) (code : Word) : State :=
  if code = abandonCode then s.abandonWrite m else s.goAccept m code

/-- A WRITE to a staging port replaces that staging word in every state of the context (R104). -/
def State.stage (s : State) (m : MasterId) (n : Fin 5) (data : Word) : State :=
  s.setContext m { s.context m with staging := (s.context m).staging.put n data }

/-- A WRITE to ATTENTION: a supervisor's clears the named reasons, any other's changes nothing (R156). -/
def State.attentionWrite (s : State) (m : MasterId) (data : Word) : State :=
  if (s.master m).supervisor then { s with attention := s.attention.clearNamed data } else s

/-- A word written to a port is handed to the block that owns it (R31). -/
def State.portWrite (s : State) (m : MasterId) (data : Word) : Port → State
  | .context => s.goWrite m data
  | .word n => s.stage m n data
  | .attention => s.attentionWrite m data
  | .occupancy => s

/-- Check 5: a cycle at the directory port (R29, R165). A SPLIT READ never reaches it (R25) and nor does a MEM
address, since entry 0 is an IO window (log 12). -/
def State.portPhase (s : State) (a : BusAddress) (m : MasterId) (kind : CycleKind) (width : Width) : State :=
  match a, kind with
  | .io p, .read =>
    if p.getLsbD 0 then s.answer .denied else s.serve (some (s.portWord m (portOf p)))
  | .io p, .write data =>
    if p.getLsbD 0 then s.answer .denied
    else (s.portWrite m (writtenWord data width) (portOf p)).serve none
  | _, _ => s.answer .denied

/-! ## The whole resolution -/

/-- The resolution of one address phase on a free bus, one event (R23, Table 3-1). -/
def State.resolvePhase (s : State) (a : BusAddress) (m : MasterId) (kind : CycleKind) (width : Width) : State :=
  if (s.master m).enabled = false then s.answer .denied
  else if isSplit kind && spaceOf a == .io then s.answer .denied
  else
    match s.verdict m (spaceOf a) (unitOf a) (isWrite kind) with
    | .disabled => s.answer .denied
    | .unmapped => s.answer .unmapped
    | .byState _ status => s.answer status
    | .noRight _ => s.answer .denied
    | .port => s.portPhase a m kind width
    | .select w =>
      match kind with
      | .read => s.select m .read w (unitOf a)
      | .write _ => s.select m .write w (unitOf a)
      | .splitRead tag => s.splitPhase m tag w (unitOf a)

/-- An address phase as an event: on a free bus, with INIT released (R39; log 2, log 3). -/
def State.addressPhase (s : State) (a : BusAddress) (m : MasterId) (kind : CycleKind) (width : Width) : Result :=
  s.whileRunning (s.onFreeBus (.next (s.resolvePhase a m kind width)))

end Sys2Proof.Machine
end

