-- ==== Sys2Proof/Machine/Cycles.lean ====
section
/-!
DEFINITION. Address phases, the port writes, and the ends of a selected cycle (02, 03, 06).
-/
namespace Sys2Proof.Machine

/-! ## Address phases -/

/-- ADDRESS_PHASE (R23). -/
def execAddressPhase (a : BusAddress) (m : MasterId) (kind : CycleKind) (width : Width) (s : State) : Result :=
  s.addressPhase a m kind width

/-- The port address of a staging word: 0xFFF2, 0xFFF4, 0xFFF6, 0xFFF8 or 0xFFFA (R104). -/
def stagingPort (n : Fin 5) : BitVec 16 :=
  match n with
  | 0 => 0xFFF2
  | 1 => 0xFFF4
  | 2 => 0xFFF6
  | 3 => 0xFFF8
  | 4 => 0xFFFA

/-- GO: the address phase of a WRITE to 0xFFF0 (R31, R106; DEDUCED, log 8). -/
def execGo (m : MasterId) (code : Word) (width : Width) (s : State) : Result :=
  s.addressPhase (.io 0xFFF0) m (.write code) width

/-- STAGING_WRITE: the address phase of a WRITE to a staging port (R31, R104; log 8). -/
def execStagingWrite (m : MasterId) (n : Fin 5) (data : Word) (width : Width) (s : State) : Result :=
  s.addressPhase (.io (stagingPort n)) m (.write data) width

/-- ATTENTION_CLEAR: the address phase of a WRITE to 0xFFFC (R31, R156; log 8). -/
def execAttentionClear (m : MasterId) (data : Word) (width : Width) (s : State) : Result :=
  s.addressPhase (.io 0xFFFC) m (.write data) width

/-- OCCUPANCY_WRITE: the address phase of a WRITE to 0xFFFE (R31; log 8). -/
def execOccupancyWrite (m : MasterId) (data : Word) (width : Width) (s : State) : Result :=
  s.addressPhase (.io 0xFFFE) m (.write data) width

/-- ABANDON: the address phase of a WRITE of 0x001F to 0xFFF0 (R107, R116 to R118; log 8). -/
def execAbandon (m : MasterId) (width : Width) (s : State) : Result :=
  s.addressPhase (.io 0xFFF0) m (.write abandonCode) width

/-! ## Acknowledges (R43, R44, R46) -/

/-- The status is a proper acknowledge of the kind: OK, or ACCEPT in a SPLIT READ (R43). -/
def CurrentKind.proper : CurrentKind → Status → Bool
  | _, .ok => true
  | .splitRead _, .accept => true
  | _, _ => false

/-- The reserved entry of an accepted SPLIT READ becomes WAITING, its deadline started from the serving slot's reply
limit (R62, R63). -/
def State.acceptReserved (s : State) (c : CurrentCycle) : State :=
  match c.kind with
  | .splitRead tag =>
    s.setEntryState (c.master, tag) (.waiting ((s.slot c.slot).replyLimit * Config.ticksPerReplyStep))
  | .read => s
  | .write => s

/-- A proper acknowledge ends the cycle: strike clear, the entry removed on OK or WAITING on ACCEPT, lines and record
gone, drain check (R43). -/
def State.properEnd (s : State) (c : CurrentCycle) (status : Status) : State :=
  let cleared := s.strikeClear c.window
  let handed := if status = .accept then cleared.acceptReserved c else cleared.removeReserved c
  handed.endCycle c (.bySlave status)

/-- An improper acknowledge ends the cycle with the slave's status: strike, the entry removed, lines and record gone,
drain check (R44). -/
def State.improperEnd (s : State) (c : CurrentCycle) (status : Status) : State :=
  ((s.strike c.window).removeReserved c).endCycle c (.bySlave status)

/-- A status that the slave of the current cycle drives on AST ends that cycle, properly or improperly; with no current
cycle it is ignored (R43, R44, R46; DEDUCED, log 9). -/
def State.acknowledge (s : State) (status : Status) : State :=
  match s.current with
  | none => s
  | some c => if c.kind.proper status then s.properEnd c status else s.improperEnd c status

/-- PROPER_ACKNOWLEDGE (R43). -/
def execProperAcknowledge (status : Status) (s : State) : Result := s.whileRunning (.next (s.acknowledge status))

/-- IMPROPER_ACKNOWLEDGE (R44). -/
def execImproperAcknowledge (status : Status) (s : State) : Result := s.whileRunning (.next (s.acknowledge status))

/-- STRAY_ACKNOWLEDGE: an acknowledge that belongs to no cycle, such as one that comes after the expiry of its own. The
Monitor ignores it, whatever cycle is current by then (R46). -/
def execStrayAcknowledge (status : Status) (s : State) : Result :=
  match status with
  | _ => .next s

/-! ## Expiry (R45) -/

/-- The timer's expiry: SILENT on AST, strike, the entry removed, lines and record gone, drain check; with no current
cycle there is no timer to expire (R42, R45, R46; DEDUCED, log 10). -/
def State.timerExpiry (s : State) : State :=
  match s.current with
  | none => s
  | some c => ((s.strike c.window).removeReserved c).endCycle c (.byPart .silent)

/-- ACKNOWLEDGE_TIMER_EXPIRY (R45). -/
def execAcknowledgeTimerExpiry (s : State) : Result := s.whileRunning (.next s.timerExpiry)

end Sys2Proof.Machine
end

