-- ==== Sys2Proof/Machine/Engine.lean ====
section
/-!
DEFINITION. The engine: the take of the command at the head of the queue (R110), the checks common to the commands
(R111, R112), and the take of a code that names no command.
-/
namespace Sys2Proof.Machine

/-- The context as a take begins: ACTIVE (R110 step 2). -/
def Context.taken (c : Context) : Context := { c with state := .active }

/-- A take of the command at the head of the queue, when that command is one of those the row names: the head leaves
the queue, its context becomes ACTIVE, and the command's checks and effect follow in the same event (R110).
A take of a command that is not at the head cannot arise (log 2). -/
def State.take (s : State) (named : Word → Bool) (effect : MasterId → Captured → State → State) : Result :=
  s.whileRunning <|
    match s.queue with
    | [] => .fault .notAtHead
    | m :: rest =>
      match (s.context m).captured with
      | none => .fault .notAtHead
      | some cmd =>
        if named cmd.code then
          .next (effect m cmd ({ s with queue := rest }.setContext m (s.context m).taken))
        else .fault .notAtHead

/-- The code names this command (Table 7-3). -/
def isCommand (c : Command) (code : Word) : Bool := commandOf code == some c

/-- A refusal completes the context with its result and words of zero; no table changes (R113). -/
def State.refuse (s : State) (m : MasterId) (code : ResultCode) : State := s.complete m code .zero

/-- A command that is whole at the take completes DONE with its result words (R113). -/
def State.done (s : State) (m : MasterId) (results : Words) : State := s.complete m .done results

/-- The context as a take leaves it waiting on a window; the captured command is kept, the result stays NONE and the
result words read as zero (R114). -/
def Context.waitingOn (c : Context) (w : WindowId) : Context :=
  { c with state := .waiting, waitingWindow := some w }

/-- A take that leaves its window HELD or DRAINING: window and context name each other (R114). -/
def State.awaitWindow (s : State) (m : MasterId) (w : WindowId) (win : Window) : State :=
  (s.setWindow w { win with waiting := some m }).setContext m ((s.context m).waitingOn w)

/-- Authority over a window: the issuer is its sponsor or a supervisor (R112). -/
def State.commands (s : State) (m : MasterId) (win : Window) : Bool :=
  win.sponsor == m || (s.master m).supervisor

/-- The first three checks of every window command: NO-WINDOW, PROTECTED, NO-AUTHORITY (R111, R112). -/
def State.windowNamed (s : State) (m : MasterId) (id : Word) : Except ResultCode WindowId :=
  match indexOf 64 id.toNat with
  | none => .error .noWindow
  | some w =>
    if (s.window w).state = .free then .error .noWindow
    else if w = 0 then .error .protectedEntry
    else if s.commands m (s.window w) then .ok w
    else .error .noAuthority

/-- A window command: its common checks, then its own (R111). -/
def State.windowCommand (s : State) (m : MasterId) (id : Word) (own : WindowId → State) : State :=
  match s.windowNamed m id with
  | .error code => s.refuse m code
  | .ok w => own w

/-- A Registry command: authority, then its own checks (R111, R112). -/
def State.registryCommand (s : State) (m : MasterId) (own : State) : State :=
  if (s.master m).supervisor then own else s.refuse m .noAuthority

/-- BAD-COMMAND, with the code as captured in result word 0 (R111). -/
def badCommandEffect (m : MasterId) (cmd : Captured) (s : State) : State :=
  s.complete m .badCommand (.one cmd.code)

/-- BAD_COMMAND: the engine takes a captured code that names no command (R111). -/
def execBadCommand (s : State) : Result :=
  s.take (fun code => (commandOf code).isNone) badCommandEffect

end Sys2Proof.Machine
end

