-- ==== Sys2Proof/Machine/Inspect.lean ====
section
/-!
DEFINITION. INSPECT and RESOLVE (R158 to R161, Tables 12-4 and 12-5).
-/
namespace Sys2Proof.Machine

/-! ## INSPECT -/

/-- WINDOW page 0, the record (R159, Table 12-5). A FREE record is cleared and reads zero throughout (R1). -/
def windowRecordWords (win : Window) : Words :=
  ⟨pack [lay win.state.code 0 3, lay (inspectSpaceCode win.space) 3 1, lay win.layer.val 4 2, lay win.slot.val 6 4,
      lay win.sponsor.val 10 3],
    pack [lay win.base 0 12, lay win.strikes 12 4],
    pack [lay win.length 0 13],
    setsWord win.readSet win.writeSet,
    optionalUnitWord win.target⟩

/-- WINDOW page 1, the wait: pending change, waiting master, reference count and mark (R159, Table 12-5). -/
def State.windowWaitWords (s : State) (w : WindowId) : Words :=
  let win := s.window w
  let change := win.change
  ⟨pack [lay ((change.map (·.base)).getD 0) 0 12, layBit change.isSome 15],
    pack [lay ((change.map (·.length)).getD 0) 0 13],
    pack [lay ((change.map (·.slot.val)).getD 0) 0 4, layBit win.waiting.isSome 4,
      lay ((win.waiting.map (·.val)).getD 0) 5 3, lay (s.refCount w) 8 6, layBit (s.marked w) 15],
    optionalUnitWord (change.bind (·.target)),
    0⟩

/-- The remaining deadline in whole steps of 16 us, rounded up, from 1 to 255; 0 when absent (R159; a deadline that
has run to 0 reads 1 until its expiry is taken: DEDUCED, log 11). -/
def EntryState.deadlineSteps : EntryState → Nat
  | .reserved => 0
  | .waiting d => max 1 ((d + (Config.ticksPerReplyStep - 1)) / Config.ticksPerReplyStep)
  | .expired _ => 0

/-- An ORT entry as a page gives it (Table 12-5). -/
def OrtEntry.words (e : OrtEntry) : Words :=
  ⟨pack [lay e.master.val 0 3, lay e.tag.val 3 4, lay e.slot.val 7 4, lay e.state.code 11 2, layBit true 15],
    pack [lay e.unit 0 12],
    pack [lay e.state.deadlineSteps 0 8, lay e.state.faultCode 8 3],
    0, 0⟩

/-- WINDOW page 2 + n: the n-th entry naming the window in creation order, or zero (R159). -/
def State.windowEntryWords (s : State) (w : WindowId) (n : Nat) : Words :=
  match (s.ort.filter (·.window == w))[n]? with
  | some e => e.words
  | none => .zero

/-- SLOT page (R160, Table 12-5). -/
def State.slotPageWords (s : State) (k : SlotId) : Words :=
  let r := s.slot k
  ⟨pack [layBit r.present 0, lay r.state.code 1 2, layBit (modeBit r.mode) 3],
    pack [lay r.ackLimit 0 8, lay r.replyLimit 8 8],
    wordOf ((List.finRange 64).countP fun w => (s.window w).state != .free && (s.window w).slot == k),
    wordOf ((List.finRange 64).countP fun w => (s.window w).state == .draining && (s.window w).slot == k),
    wordOf (s.ort.countP (·.slot == k))⟩

/-- MASTER page (R160, Table 12-5). -/
def State.masterPageWords (s : State) (m : MasterId) : Words :=
  let r := s.master m
  ⟨pack [layBit r.enabled 0, layBit r.supervisor 1],
    wordOf (s.ort.countP (·.master == m)),
    wordOf ((List.finRange 64).countP fun w => (s.window w).state != .free && (s.window w).sponsor == m),
    0, 0⟩

/-- ATTENTION page (R160, Table 12-5). -/
def State.attentionPageWords (s : State) : Words :=
  ⟨s.attention.suspended.word, s.attention.slotLost.word, s.attention.orphanReply.word,
    wordOf (selectionCode s.selection), 0⟩

/-- The five words of a record or page, from the state as it stands (R158). -/
def State.inspectWords (s : State) : InspectOperand → Words
  | .windowRecord w => windowRecordWords (s.window w)
  | .windowWait w => s.windowWaitWords w
  | .windowEntry w n => s.windowEntryWords w n
  | .slot k => s.slotPageWords k
  | .master m => s.masterPageWords m
  | .attention => s.attentionPageWords

/-- INSPECT: operands only, then the words (R158). -/
def inspectEffect (m : MasterId) (cmd : Captured) (s : State) : State :=
  match inspectOperand cmd.words with
  | none => s.refuse m .badOperand
  | some o => s.done m (s.inspectWords o)

/-- INSPECT (R158). -/
def execInspect (s : State) : Result := s.take (isCommand .inspect) inspectEffect

/-! ## RESOLVE -/

/-- The outcome codes: the AST value of an answered status, 8 SERVED, 9 SELECTED (R167). -/
def Verdict.outcomeCode : Verdict → Nat
  | .disabled => statusCode .denied
  | .unmapped => statusCode .unmapped
  | .byState _ status => statusCode status
  | .noRight _ => statusCode .denied
  | .port => 8
  | .select _ => 9

/-- The window a verdict reports, when there is one (R161). -/
def Verdict.window : Verdict → Option WindowId
  | .disabled => none
  | .unmapped => none
  | .byState w _ => some w
  | .noRight w => some w
  | .port => some 0
  | .select w => some w

/-- The window selected, when the verdict is SELECTED: slot, mode and LOF are present for it alone (R161). -/
def Verdict.selected : Verdict → Option WindowId
  | .disabled => none
  | .unmapped => none
  | .byState _ _ => none
  | .noRight _ => none
  | .port => none
  | .select w => some w

/-- Word 1 of RESOLVE: bits 5..0 window, 15 present. -/
def resolveWindowWord : Option WindowId → Word
  | none => 0
  | some w => pack [lay w.val 0 6, layBit true 15]

/-- Word 2 of RESOLVE: bits 3..0 slot, 4 mode, 15 present. -/
def State.resolveSlotWord (s : State) : Option WindowId → Word
  | none => 0
  | some w =>
    pack [lay (s.window w).slot.val 0 4, layBit (modeBit (s.slot (s.window w).slot).mode) 4, layBit true 15]

/-- Word 4 of RESOLVE: bits 1..0 layer of the top window, 15 present: present when the window is (DEDUCED, log 15). -/
def State.resolveLayerWord (s : State) : Option WindowId → Word
  | none => 0
  | some w => pack [lay (s.window w).layer.val 0 2, layBit true 15]

/-- The result words of a RESOLVE for a unit (R161, Table 12-4). -/
def State.resolveWords (s : State) (v : Verdict) (unit : Nat) : Words :=
  ⟨wordOf v.outcomeCode, resolveWindowWord v.window, s.resolveSlotWord v.selected,
    optionalUnitWord (v.selected.map fun w => (s.window w).renumber unit), s.resolveLayerWord v.window⟩

/-- RESOLVE: operands only, then checks 1 to 5 and 7 without making the cycle (R161). -/
def resolveEffect (m : MasterId) (cmd : Captured) (s : State) : State :=
  match resolveOperands cmd.words with
  | none => s.refuse m .badOperand
  | some o => s.done m (s.resolveWords (s.verdict o.master o.space o.unit o.isWrite) o.unit)

/-- RESOLVE (R161). -/
def execResolve (s : State) : Result := s.take (isCommand .resolve) resolveEffect

end Sys2Proof.Machine
end

