-- ==== Sys2Proof/Machine/Registry.lean ====
section
/-!
DEFINITION. The Registry commands: SET SLOT, SLOT ONLINE, SLOT OFFLINE, SET MASTER and TUNE
(05_slots_masters_and_directory_settings.md).
-/
namespace Sys2Proof.Machine

/-! ## SET SLOT (R93) -/

/-- A limit operand is from 1 to 255 (R93). -/
def limitOk (w : Word) : Bool := decide (1 ≤ w.toNat) && decide (w.toNat ≤ 255)

/-- The slot with both limits replaced together (R93). -/
def SlotRecord.withLimits (r : SlotRecord) (ackLimit replyLimit : Nat) : SlotRecord :=
  { r with ackLimit := ackLimit, replyLimit := replyLimit }

/-- SET SLOT: authority, operands, then both limits (R93). -/
def setSlotEffect (m : MasterId) (cmd : Captured) (s : State) : State :=
  s.registryCommand m <|
    match indexOf 16 cmd.words.w0.toNat with
    | none => s.refuse m .badOperand
    | some k =>
      if limitOk cmd.words.w1 && limitOk cmd.words.w2 then
        (s.setSlot k ((s.slot k).withLimits cmd.words.w1.toNat cmd.words.w2.toNat)).done m
          ⟨wordOf k.val, cmd.words.w1, cmd.words.w2, 0, 0⟩
      else s.refuse m .badOperand

/-- SET_SLOT (R93). -/
def execSetSlot (s : State) : Result := s.take (isCommand .setSlot) setSlotEffect

/-! ## SLOT ONLINE and SLOT OFFLINE (R94, R95) -/

/-- The slot in another administrative state. -/
def SlotRecord.withState (r : SlotRecord) (state : SlotState) : SlotRecord := { r with state := state }

/-- Result words of SLOT ONLINE and SLOT OFFLINE: slot, state now held, and for SLOT OFFLINE the windows taken into
DRAINING (R94, R95, Table 12-4). -/
def slotWords (k : SlotId) (state : SlotState) (drained : Nat) : Words :=
  ⟨wordOf k.val, wordOf state.code, wordOf drained, 0, 0⟩

/-- SLOT ONLINE: ABSENT is BAD-SLOT, ONLINE changes nothing, OFFLINE becomes ONLINE (R94). -/
def slotOnlineEffect (m : MasterId) (cmd : Captured) (s : State) : State :=
  s.registryCommand m <|
    match indexOf 16 cmd.words.w0.toNat with
    | none => s.refuse m .badOperand
    | some k =>
      match (s.slot k).state with
      | .absent => s.refuse m .badSlot
      | .online => s.done m (slotWords k .online 0)
      | .offline => (s.setSlot k ((s.slot k).withState .online)).done m (slotWords k .online 0)

/-- SLOT_ONLINE (R94). -/
def execSlotOnline (s : State) : Result := s.take (isCommand .slotOnline) slotOnlineEffect

/-- SLOT OFFLINE: slot 0 is PROTECTED, ABSENT is BAD-SLOT, OFFLINE changes nothing; ONLINE becomes OFFLINE and the
forced drain follows, the current cycle and the ORT left alone (R95). -/
def slotOfflineEffect (m : MasterId) (cmd : Captured) (s : State) : State :=
  s.registryCommand m <|
    match indexOf 16 cmd.words.w0.toNat with
    | none => s.refuse m .badOperand
    | some k =>
      if k = 0 then s.refuse m .protectedEntry
      else
        match (s.slot k).state with
        | .absent => s.refuse m .badSlot
        | .offline => s.done m (slotWords k .offline 0)
        | .online =>
          ((s.setSlot k ((s.slot k).withState .offline)).forceDrain k).done m
            (slotWords k .offline (s.drainable k))

/-- SLOT_OFFLINE (R95). -/
def execSlotOffline (s : State) : Result := s.take (isCommand .slotOffline) slotOfflineEffect

/-! ## SET MASTER (R98, R99) -/

/-- Some master is both enabled and a supervisor (R98). -/
def State.hasSupervisor (s : State) : Bool :=
  (List.finRange 8).any fun m => (s.master m).enabled && (s.master m).supervisor

/-- A disabled master's QUEUED context leaves the queue and completes DISABLED; in any other state it is left as it
is (R99). -/
def State.withdrawQueued (s : State) (m : MasterId) : State :=
  if (s.context m).state = .queued then
    { s.complete m .disabled .zero with queue := s.queue.filter (· != m) }
  else s

/-- SET MASTER writes both fields, and disabling withdraws a QUEUED command (R98, R99). -/
def State.writeMaster (s : State) (k : MasterId) (r : MasterRecord) : State :=
  if r.enabled then s.setMaster k r else (s.setMaster k r).withdrawQueued k

/-- SET MASTER: authority, operands, last supervisor, then both fields as one event (R98). -/
def setMasterEffect (m : MasterId) (cmd : Captured) (s : State) : State :=
  s.registryCommand m <|
    match indexOf 8 cmd.words.w0.toNat with
    | none => s.refuse m .badOperand
    | some k =>
      let r : MasterRecord := ⟨bitOf cmd.words.w1 0, bitOf cmd.words.w1 1⟩
      if (s.setMaster k r).hasSupervisor then
        (s.writeMaster k r).done m ⟨wordOf k.val, pack [layBit r.enabled 0, layBit r.supervisor 1], 0, 0, 0⟩
      else s.refuse m .lastSupervisor

/-- SET_MASTER (R98). -/
def execSetMaster (s : State) : Result := s.take (isCommand .setMaster) setMasterEffect

/-! ## TUNE (R100, R101) -/

/-- The strike limit written, and every non-FREE window's strikes set to 0 with it; a FREE record's are 0 already
(R50, R100, R1). -/
def State.tuneStrikes (s : State) (limit : Nat) : State :=
  if limit = 0 then s
  else { s with strikeLimit := limit, windows := Vector.ofFn fun w => (s.window w).unstruck }

/-- The selection written, unless it is to be left; the line drive moves with it, since it is a function of the
selection and the reasons (R101). -/
def State.tuneSelection (s : State) : SelectionOperand → State
  | .leave => s
  | .set selection => { s with selection := selection }

/-- Result words of TUNE: the strike limit and the selection now in force (R100). -/
def State.tuneWords (s : State) : Words := ⟨wordOf s.strikeLimit, wordOf (selectionCode s.selection), 0, 0, 0⟩

/-- TUNE: authority, operands, then both settings as one event (R100). -/
def tuneEffect (m : MasterId) (cmd : Captured) (s : State) : State :=
  s.registryCommand m <|
    match selectionOperand cmd.words.w1 with
    | none => s.refuse m .badOperand
    | some sel =>
      if cmd.words.w0.toNat ≤ 15 then
        let tuned := (s.tuneStrikes cmd.words.w0.toNat).tuneSelection sel
        tuned.done m tuned.tuneWords
      else s.refuse m .badOperand

/-- TUNE (R100). -/
def execTune (s : State) : Result := s.take (isCommand .tune) tuneEffect

end Sys2Proof.Machine
end

