-- ==== Sys2Proof/Machine/Replies.lean ====
section
/-!
DEFINITION. Deadlines, REPLY cycles and the part's own bus tenures (04_split_reads_and_the_outstanding_read_table.md).
-/
namespace Sys2Proof.Machine

/-! ## Deadlines (R64) -/

/-- The entry EXPIRED with SILENT, at the tail of the fault-reply queue; a strike for its window; the request made
sure of (R64). -/
def State.expireEntry (s : State) (e : OrtEntry) : State :=
  (({ s.setEntryState e.key (.expired .silent) with faultQueue := s.faultQueue ++ [e.key] }).strike e.window).assertRequest

/-- A deadline expiry: it acts on a WAITING entry, and one that has met its reply or its slot's loss first does not
happen (R64, R72; DEDUCED, log 10). -/
def State.deadlineExpiry (s : State) (k : MasterId × Tag) : State :=
  match s.entry k with
  | none => s
  | some e =>
    match e.state with
    | .waiting _ => s.expireEntry e
    | .reserved => s
    | .expired _ => s

/-- DEADLINE_EXPIRY (R64). -/
def execDeadlineExpiry (m : MasterId) (tag : Tag) (s : State) : Result :=
  s.whileRunning (.next (s.deadlineExpiry (m, tag)))

/-! ## REPLY cycles (R65 to R70) -/

/-- The lines in a reply that a slave drives, through its cycle: its status on AST, and VOID as the tracker decides
(R39, R70). -/
def Lines.slaveReply (status : Status) (void : Bool) : Lines :=
  { Lines.idle with ast := .bySlave status, void := void }

/-- An orphan, or a reply to a WITHDRAWN entry: voided, and ORPHAN-REPLY raised with the source slot (R68, R69). -/
def State.voidReply (s : State) (source : SlotId) (status : Status) : State :=
  (s.releaseLines (Lines.slaveReply status true)).raise .orphanReply source.val

/-- A reply that answers a WAITING entry: it passes, a strike clear is handed, the entry is removed (R66). -/
def State.passWaiting (s : State) (e : OrtEntry) (status : Status) : State :=
  ((s.releaseLines (Lines.slaveReply status false)).strikeClear e.window).removeEntry e

/-- A real reply to an EXPIRED SILENT entry: it passes, the entry leaves the table and the fault-reply queue, no clear
is handed, and the request is released if the queue is then empty (R67, R77). -/
def State.passExpired (s : State) (e : OrtEntry) (status : Status) : State :=
  ((s.releaseLines (Lines.slaveReply status false)).removeEntry e).releaseRequest

/-- Reply matching (Table 5-3). A RESERVED entry cannot meet a reply, since its own cycle holds the bus (R65). -/
def State.matchReply (s : State) (k : MasterId × Tag) (source : SlotId) (status : Status) : Result :=
  match s.entry k with
  | none => .next (s.voidReply source status)
  | some e =>
    match e.state with
    | .reserved => .fault .busBusy
    | .waiting _ => if e.slot = source then .next (s.passWaiting e status) else .next (s.voidReply source status)
    | .expired .silent => if e.slot = source then .next (s.passExpired e status) else .next (s.voidReply source status)
    | .expired .withdrawn => .next (s.voidReply source status)

/-- REPLY_CYCLE (R65): on a free bus. The data goes to the destination master, and the part neither drives nor
examines it (R71). -/
def execReplyCycle (m : MasterId) (tag : Tag) (source : SlotId) (data : Word) (status : Status) (s : State) : Result :=
  match data with
  | _ => s.whileRunning (s.onFreeBus (s.matchReply (m, tag) source status))

/-! ## The part's own tenures (R77 to R79) -/

/-- The fault reply for an entry: its master and tag, its slot on the source lines, data zero, its fault status on
AST, VOID released (R78). -/
def Lines.faultReply (e : OrtEntry) (f : FaultStatus) : Lines :=
  { Lines.idle with
    ast := .byPart f.status
    data := some 0
    source := some e.slot
    dest := some e.key }

/-- The lines of the tenure for the head of the queue. The head is an EXPIRED entry of the ORT by R76 (log 12). -/
def State.tenureLines (s : State) (k : MasterId × Tag) : Lines :=
  match s.entry k with
  | none => .idle
  | some e =>
    match e.state with
    | .expired f => .faultReply e f
    | .reserved => .idle
    | .waiting _ => .idle

/-- A grant: HOLDING with the fault reply of the head driven (R78), or an empty tenure, which drives no cycle and
releases the bus at once, becoming IDLE (R79). -/
def State.grantTenure (s : State) : State :=
  match s.faultQueue with
  | [] => { s with mastership := .idle }.releaseLines .idle
  | k :: _ => { s with mastership := .holding }.withLines (s.tenureLines k)

/-- MASTERSHIP_GRANT (R78, R79): never while a selected cycle holds the bus (R164; log 2). "A grant arrives: the
Tracker becomes HOLDING, whatever its state" (R77; log 17). -/
def execMastershipGrant (s : State) : Result :=
  s.whileRunning (if s.current.isSome then .fault .busBusy else .next s.grantTenure)

/-- The tenure ends: REQUESTING again while entries remain, else IDLE; the bus and its lines are released
(R77, R78). -/
def State.endTenure (s : State) : State :=
  { s with mastership := if s.faultQueue = [] then .idle else .requesting }.releaseLines s.lines

/-- The end of the fault reply cycle: the head's entry leaves the queue and the ORT, the drain check follows, the
tenure ends (R78). -/
def State.endFaultReply (s : State) (k : MasterId × Tag) : State :=
  match s.entry k with
  | some e => (s.removeEntry e).endTenure
  | none => (s.dropEntry k).endTenure

/-- FAULT_REPLY_END (R78). -/
def execFaultReplyEnd (s : State) : Result :=
  s.whileRunning <|
    match s.mastership, s.faultQueue with
    | .holding, k :: _ => .next (s.endFaultReply k)
    | _, _ => .fault .noFaultReply

end Sys2Proof.Machine
end

