-- ==== Sys2Proof/Machine/SystemLines.lean ====
section
/-!
DEFINITION. The INIT line and the presence lines: INIT, INIT_RELEASE, PRESENCE_LOSS, PRESENCE_RETURN (R22, R89 to R92,
R102).
-/
namespace Sys2Proof.Machine

/-! ## INIT (R22, R41, R57, R84, R102, R121, R163) -/

/-- Window Table contents after INIT (Table 2-3). -/
def initWindow (w : WindowId) : Window :=
  if w = 0 then .directoryPort else if w = 1 then .boot else .cleared

/-- The master records after INIT: all enabled, master 0 the one supervisor (R97, R102). -/
def initMaster (m : MasterId) : MasterRecord := ⟨true, m == 0⟩

/-- A slot record with the limits of INIT (R102). -/
def SlotRecord.initLimits (r : SlotRecord) : SlotRecord :=
  { r with ackLimit := Config.defaultAckLimit, replyLimit := Config.defaultReplyLimit }

/-- The Registry contents that INIT fixes without reading a line: limits, master records and settings
(R57, R102; DEDUCED, log 4). -/
def State.initRegistry (s : State) : State :=
  { s with
    slots := Vector.ofFn fun k => (s.slot k).initLimits
    masters := Vector.ofFn initMaster
    strikeLimit := Config.defaultStrikeLimit
    selection := none }

/-- INIT asserted: every block at its start-up contents, nothing completed, raised, struck or checked; every line
released; the line levels PRS and MODE are the rack's own (R22, R41, R84, R121, R163). -/
def State.initialise (s : State) : State :=
  { s.initRegistry with
    windows := Vector.ofFn initWindow
    current := none
    lines := .idle
    shown := .idle
    ort := []
    faultQueue := []
    mastership := .idle
    contexts := Vector.ofFn fun _ => Context.reset
    queue := []
    attention := .clear
    pins := { s.pins with init := true } }

/-- INIT (R22). -/
def execInit (s : State) : Result := .next s.initialise

/-! ## The release of INIT (R102) -/

/-- A slot's record as the release finds its lines: slot 0 present and ONLINE, any other by its PRS level; the mode
sampled; the limits of INIT (R86, R87, R102). -/
def releasedSlot (prs mode : BitVec 16) (k : SlotId) : SlotRecord where
  present := k == 0 || prs.getLsbD k.val
  state := if k == 0 || prs.getLsbD k.val then .online else .absent
  mode := modeOfLevel (mode.getLsbD k.val)
  ackLimit := Config.defaultAckLimit
  replyLimit := Config.defaultReplyLimit

/-- The pins at the release: INIT released, PRS1 to PRS15 and MODE0 to MODE15 as found (R102). -/
def releasedPins (prs mode : BitVec 16) : Pins where
  init := false
  prs := Vector.ofFn fun k => k != (0 : SlotId) && prs.getLsbD k.val
  mode := Vector.ofFn fun k => modeOfLevel (mode.getLsbD k.val)

/-- The Registry's start-up contents at the release of INIT (R102). -/
def State.release (s : State) (prs mode : BitVec 16) : State :=
  { s.initRegistry with
    slots := Vector.ofFn (releasedSlot prs mode)
    pins := releasedPins prs mode }

/-- INIT_RELEASE (R102). -/
def execInitRelease (prs mode : BitVec 16) (s : State) : Result :=
  if s.pins.init then .next (s.release prs mode) else .fault .initNotAsserted

/-! ## Presence lines (R86) -/

/-- The level of a slot's PRS line as last brought. -/
def State.prsLevel (s : State) (k : SlotId) : Bool := s.pins.prs[k]

/-- The PRS line of a slot at a new level. -/
def State.movePrs (s : State) (k : SlotId) (level : Bool) : State :=
  { s with pins := { s.pins with prs := s.pins.prs.set k level } }

/-- The MODE line of a slot at a level. -/
def State.moveMode (s : State) (k : SlotId) (mode : Mode) : State :=
  { s with pins := { s.pins with mode := s.pins.mode.set k mode } }

/-- Stage 1 of a presence loss: not present and ABSENT; mode and limits are kept (R89, R91). -/
def SlotRecord.lost (r : SlotRecord) : SlotRecord := { r with present := false, state := .absent }

/-- Stage 3: a current cycle on the slot ends WITHDRAWN, its reserved entry removed, with neither strike nor clear
(R47, R91). -/
def State.withdrawCycle (s : State) (k : SlotId) : State :=
  match s.current with
  | some c => if c.slot = k then (s.removeReserved c).endCycle c (.byPart .withdrawn) else s
  | none => s

/-- The entry is WAITING on the slot. -/
def OrtEntry.waitsOn (e : OrtEntry) (k : SlotId) : Bool :=
  match e.state with
  | .waiting _ => e.slot == k
  | .reserved => false
  | .expired _ => false

/-- Stage 4: the slot's WAITING entries become EXPIRED with WITHDRAWN and join the tail of the fault-reply queue in
their creation order; the request is asserted if entries joined while IDLE (R74, R91). -/
def State.withdrawEntries (s : State) (k : SlotId) : State :=
  let joining := (s.ort.filter (·.waitsOn k)).map (·.key)
  let expired : State :=
    { s with
      ort := s.ort.map fun e => if e.waitsOn k then { e with state := .expired .withdrawn } else e
      faultQueue := s.faultQueue ++ joining }
  if joining = [] then expired else expired.assertRequest

/-- A presence loss, in its five stages (R89). -/
def State.presenceLoss (s : State) (k : SlotId) : State :=
  let stage1 := s.setSlot k (s.slot k).lost
  let stage2 := stage1.forceDrain k
  let stage3 := stage2.withdrawCycle k
  let stage4 := stage3.withdrawEntries k
  stage4.raise .slotLost k.val

/-- PRESENCE_LOSS (R89). While INIT is asserted the line moves and no event is taken (R86). -/
def execPresenceLoss (k : SlotId) (s : State) : Result :=
  if k ≠ 0 ∧ s.prsLevel k = true then
    (s.movePrs k false).whileRunning (.next ((s.movePrs k false).presenceLoss k))
  else .fault .noEdge

/-- A card returns: present, OFFLINE, the mode strap sampled, the limits kept (R92). -/
def SlotRecord.returned (r : SlotRecord) (mode : Mode) : SlotRecord :=
  { r with present := true, state := .offline, mode := mode }

/-- PRESENCE_RETURN (R92). While INIT is asserted the lines move and no event is taken (R86). -/
def execPresenceReturn (k : SlotId) (mode : Mode) (s : State) : Result :=
  if k ≠ 0 ∧ s.prsLevel k = false then
    let moved := (s.movePrs k true).moveMode k mode
    moved.whileRunning (.next (moved.setSlot k ((s.slot k).returned mode)))
  else .fault .noEdge

end Sys2Proof.Machine
end

