-- ==== Sys2Proof/Machine/Windows.lean ====
section
/-!
DEFINITION. CLAIM and the window commands: RESIZE, MOVE, RESTACK, GRANT, HANDOVER, RETIRE, REINSTATE (07, 08, 03).
-/
namespace Sys2Proof.Machine

/-! ## CLAIM (R123, R124) -/

/-- The record a CLAIM writes (R124). -/
def claimedWindow (m : MasterId) (o : ClaimOperands) : Window where
  state := .active
  space := o.space
  base := o.base
  length := o.length
  layer := o.layer
  slot := o.slot
  readSet := o.readSet
  writeSet := o.writeSet
  target := o.target
  sponsor := m
  strikes := 0
  change := none
  waiting := none

/-- CLAIM: operands, range, slot, overlap, room; then the lowest FREE entry becomes the new window (R123, R124). -/
def claimEffect (m : MasterId) (cmd : Captured) (s : State) : State :=
  match claimOperands cmd.words with
  | none => s.refuse m .badOperand
  | some o =>
    if !rangeOk o.base o.length o.target then s.refuse m .badRange
    else if (s.slot o.slot).state ≠ .online then s.refuse m .badSlot
    else if s.overlaps none o.space o.layer o.base o.length then s.refuse m .overlap
    else
      match s.lowestFree with
      | none => s.refuse m .tableFull
      | some w => (s.setWindow w (claimedWindow m o)).done m (.one (wordOf w.val))

/-- CLAIM (R123). -/
def execClaim (s : State) : Result := s.take (isCommand .claim) claimEffect

/-! ## RESIZE (R126 to R128) -/

/-- The window HELD for a change (R128, R131). -/
def Window.heldFor (win : Window) (c : PendingChange) : Window := { win with state := .held, change := some c }

/-- The window with a new length (R127, R128). -/
def Window.withLength (win : Window) (length : Nat) : Window := { win with length := length }

/-- RESIZE of an ACTIVE window whose new length has passed its checks: the same length changes nothing, a greater one
is taken at once, a smaller one at once or through HELD (R126 to R128). -/
def State.resizeWindow (s : State) (m : MasterId) (w : WindowId) (length : Nat) : State :=
  let win := s.window w
  if length < win.length && !s.unreferenced w then
    s.awaitWindow m w (win.heldFor ⟨win.base, length, win.slot, win.target⟩)
  else (s.setWindow w (win.withLength length)).done m (shapeWords w (win.withLength length))

/-- RESIZE: state, range, and for a growing one overlap (R126). -/
def resizeEffect (m : MasterId) (cmd : Captured) (s : State) : State :=
  s.windowCommand m cmd.words.w0 fun w =>
    let win := s.window w
    let length := cmd.words.w1.toNat
    match win.state with
    | .held => s.refuse m .windowBusy
    | .draining => s.refuse m .windowBusy
    | .suspended => s.refuse m .badState
    | .free => s.refuse m .noWindow
    | .active =>
      if !rangeOk win.base length win.target then s.refuse m .badRange
      else if win.length < length && s.overlaps (some w) win.space win.layer win.base length then
        s.refuse m .overlap
      else s.resizeWindow m w length

/-- RESIZE (R126). -/
def execResize (s : State) : Result := s.take (isCommand .resize) resizeEffect

/-! ## MOVE (R129 to R131) -/

/-- MOVE of an ACTIVE window whose operands have passed: applied at once without references, with strikes 0, or left
HELD (R130, R131). -/
def State.moveWindow (s : State) (m : MasterId) (w : WindowId) (c : PendingChange) : State :=
  let win := s.window w
  if s.unreferenced w then
    (s.setWindow w (win.reshaped c).unstruck).done m (shapeWords w (win.reshaped c).unstruck)
  else s.awaitWindow m w (win.heldFor c)

/-- MOVE: state, operands, range, slot, overlap (R129). -/
def moveEffect (m : MasterId) (cmd : Captured) (s : State) : State :=
  s.windowCommand m cmd.words.w0 fun w =>
    let win := s.window w
    match win.state with
    | .held => s.refuse m .windowBusy
    | .draining => s.refuse m .windowBusy
    | .suspended => s.refuse m .badState
    | .free => s.refuse m .noWindow
    | .active =>
      match moveSlotOperand cmd.words with
      | none => s.refuse m .badOperand
      | some slot =>
        let base := cmd.words.w1.toNat
        let target := moveTargetOperand cmd.words
        if !rangeOk base win.length target then s.refuse m .badRange
        else if (s.slot slot).state ≠ .online then s.refuse m .badSlot
        else if s.overlaps (some w) win.space win.layer base win.length then s.refuse m .overlap
        else s.moveWindow m w ⟨base, win.length, slot, target⟩

/-- MOVE (R129). -/
def execMove (s : State) : Result := s.take (isCommand .move) moveEffect

/-! ## RESTACK (R137) -/

/-- The window on a new layer (R137). -/
def Window.withLayer (win : Window) (layer : Fin 4) : Window := { win with layer := layer }

/-- RESTACK of an ACTIVE or SUSPENDED window: operands, overlap, then the new layer at once (R137). -/
def State.restackWindow (s : State) (m : MasterId) (w : WindowId) (layerWord : Word) : State :=
  let win := s.window w
  match indexOf 4 layerWord.toNat with
  | none => s.refuse m .badOperand
  | some layer =>
    if s.overlaps (some w) win.space layer win.base win.length then s.refuse m .overlap
    else (s.setWindow w (win.withLayer layer)).done m ⟨wordOf w.val, wordOf layer.val, 0, 0, 0⟩

/-- RESTACK: state, then as above (R137). -/
def restackEffect (m : MasterId) (cmd : Captured) (s : State) : State :=
  s.windowCommand m cmd.words.w0 fun w =>
    match (s.window w).state with
    | .held => s.refuse m .windowBusy
    | .draining => s.refuse m .windowBusy
    | .free => s.refuse m .noWindow
    | .active => s.restackWindow m w cmd.words.w1
    | .suspended => s.restackWindow m w cmd.words.w1

/-- RESTACK (R137). -/
def execRestack (s : State) : Result := s.take (isCommand .restack) restackEffect

/-! ## GRANT and HANDOVER (R138, R139) -/

/-- The window with new sets (R138). -/
def Window.withSets (win : Window) (readSet writeSet : MasterSet) : Window :=
  { win with readSet := readSet, writeSet := writeSet }

/-- GRANT on a window that is not DRAINING (R138). -/
def State.grantWindow (s : State) (m : MasterId) (w : WindowId) (sets : Word) : State :=
  (s.setWindow w ((s.window w).withSets (readSetOf sets) (writeSetOf sets))).done m
    ⟨wordOf w.val, setsWord (readSetOf sets) (writeSetOf sets), 0, 0, 0⟩

/-- GRANT: DRAINING is refused WINDOW-BUSY, else both sets are replaced at once (R138). -/
def grantEffect (m : MasterId) (cmd : Captured) (s : State) : State :=
  s.windowCommand m cmd.words.w0 fun w =>
    match (s.window w).state with
    | .draining => s.refuse m .windowBusy
    | .free => s.refuse m .noWindow
    | .active => s.grantWindow m w cmd.words.w1
    | .held => s.grantWindow m w cmd.words.w1
    | .suspended => s.grantWindow m w cmd.words.w1

/-- GRANT (R138). -/
def execGrant (s : State) : Result := s.take (isCommand .grant) grantEffect

/-- The window with a new sponsor (R139). -/
def Window.withSponsor (win : Window) (sponsor : MasterId) : Window := { win with sponsor := sponsor }

/-- HANDOVER on a window that is not DRAINING: a sponsor above 7 is BAD-OPERAND (R139). -/
def State.handoverWindow (s : State) (m : MasterId) (w : WindowId) (sponsorWord : Word) : State :=
  match indexOf 8 sponsorWord.toNat with
  | none => s.refuse m .badOperand
  | some sponsor =>
    (s.setWindow w ((s.window w).withSponsor sponsor)).done m ⟨wordOf w.val, wordOf sponsor.val, 0, 0, 0⟩

/-- HANDOVER: DRAINING is refused WINDOW-BUSY, then as above (R139). -/
def handoverEffect (m : MasterId) (cmd : Captured) (s : State) : State :=
  s.windowCommand m cmd.words.w0 fun w =>
    match (s.window w).state with
    | .draining => s.refuse m .windowBusy
    | .free => s.refuse m .noWindow
    | .active => s.handoverWindow m w cmd.words.w1
    | .held => s.handoverWindow m w cmd.words.w1
    | .suspended => s.handoverWindow m w cmd.words.w1

/-- HANDOVER (R139). -/
def execHandover (s : State) : Result := s.take (isCommand .handover) handoverEffect

/-! ## RETIRE (R142, R143) -/

/-- The window DRAINING under a RETIRE (R143). -/
def Window.draining (win : Window) : Window := { win with state := .draining }

/-- RETIRE of an ACTIVE or SUSPENDED window: DRAINING, and FREE in the same event when it has no references, the
context completing DONE; otherwise the context waits (R143, R147). -/
def State.retireWindow (s : State) (m : MasterId) (w : WindowId) : State :=
  let win := s.window w
  if s.unreferenced w then ((s.setWindow w win.draining).drainCheck w).done m (retireWords w win)
  else s.awaitWindow m w win.draining

/-- RETIRE: HELD and DRAINING are refused WINDOW-BUSY (R142). -/
def retireEffect (m : MasterId) (cmd : Captured) (s : State) : State :=
  s.windowCommand m cmd.words.w0 fun w =>
    match (s.window w).state with
    | .held => s.refuse m .windowBusy
    | .draining => s.refuse m .windowBusy
    | .free => s.refuse m .noWindow
    | .active => s.retireWindow m w
    | .suspended => s.retireWindow m w

/-- RETIRE (R142, R143). -/
def execRetire (s : State) : Result := s.take (isCommand .retire) retireEffect

/-! ## REINSTATE (R54) -/

/-- The window returned to service: ACTIVE, strikes 0, every other field kept (R54). -/
def Window.reinstated (win : Window) : Window := { win with state := .active, strikes := 0 }

/-- REINSTATE: taken against a SUSPENDED window only (R54). -/
def reinstateEffect (m : MasterId) (cmd : Captured) (s : State) : State :=
  s.windowCommand m cmd.words.w0 fun w =>
    match (s.window w).state with
    | .suspended => (s.setWindow w (s.window w).reinstated).done m (.one (wordOf w.val))
    | .free => s.refuse m .noWindow
    | .active => s.refuse m .badState
    | .held => s.refuse m .badState
    | .draining => s.refuse m .badState

/-- REINSTATE (R54). -/
def execReinstate (s : State) : Result := s.take (isCommand .reinstate) reinstateEffect

end Sys2Proof.Machine
end

