-- ==== Sys2Proof/Machine/Dispatch.lean ====
section
/-!
DEFINITION. The dispatch of a command to its meaning.
-/
namespace Sys2Proof.Machine

def exec (i : Instr) (s : State) : Host.Outcome State Fault Refusal :=
  match i with
  | .init => Sys2Proof.Machine.execInit s
  | .initRelease prs mode => Sys2Proof.Machine.execInitRelease prs mode s
  | .addressPhase address master kind width => Sys2Proof.Machine.execAddressPhase address master kind width s
  | .go master code width => Sys2Proof.Machine.execGo master code width s
  | .stagingWrite master index data width => Sys2Proof.Machine.execStagingWrite master index data width s
  | .attentionClear master data width => Sys2Proof.Machine.execAttentionClear master data width s
  | .occupancyWrite master data width => Sys2Proof.Machine.execOccupancyWrite master data width s
  | .abandon master width => Sys2Proof.Machine.execAbandon master width s
  | .badCommand => Sys2Proof.Machine.execBadCommand s
  | .claim => Sys2Proof.Machine.execClaim s
  | .resize => Sys2Proof.Machine.execResize s
  | .move => Sys2Proof.Machine.execMove s
  | .restack => Sys2Proof.Machine.execRestack s
  | .grant => Sys2Proof.Machine.execGrant s
  | .handover => Sys2Proof.Machine.execHandover s
  | .retire => Sys2Proof.Machine.execRetire s
  | .reinstate => Sys2Proof.Machine.execReinstate s
  | .setSlot => Sys2Proof.Machine.execSetSlot s
  | .slotOnline => Sys2Proof.Machine.execSlotOnline s
  | .slotOffline => Sys2Proof.Machine.execSlotOffline s
  | .setMaster => Sys2Proof.Machine.execSetMaster s
  | .tune => Sys2Proof.Machine.execTune s
  | .inspect => Sys2Proof.Machine.execInspect s
  | .resolve => Sys2Proof.Machine.execResolve s
  | .properAcknowledge status => Sys2Proof.Machine.execProperAcknowledge status s
  | .improperAcknowledge status => Sys2Proof.Machine.execImproperAcknowledge status s
  | .strayAcknowledge status => Sys2Proof.Machine.execStrayAcknowledge status s
  | .acknowledgeTimerExpiry => Sys2Proof.Machine.execAcknowledgeTimerExpiry s
  | .deadlineExpiry master tag => Sys2Proof.Machine.execDeadlineExpiry master tag s
  | .replyCycle master tag source data status => Sys2Proof.Machine.execReplyCycle master tag source data status s
  | .mastershipGrant => Sys2Proof.Machine.execMastershipGrant s
  | .faultReplyEnd => Sys2Proof.Machine.execFaultReplyEnd s
  | .presenceLoss slot => Sys2Proof.Machine.execPresenceLoss slot s
  | .presenceReturn slot mode => Sys2Proof.Machine.execPresenceReturn slot mode s

end Sys2Proof.Machine
end

