-- ==== Sys2Proof/Safety.lean ====
section
/-!
DEFINITION. What a sound state of the part is: the laws of the device as the rules state them, and a step that does
not stop.
-/
namespace Sys2Proof.Machine

/-- The step answers a next state: no event met a state in which the spec says it cannot arise. -/
def State.Proceeds (s : State) : Prop := ∃ t, step s = .next t

/-- R19: "Entry 0 is always ACTIVE with these contents." -/
abbrev State.PortLaw (s : State) : Prop := s.window 0 = .directoryPort

/-- R1: a FREE record is cleared. -/
abbrev State.ClearedLaw (s : State) : Prop := ∀ w, (s.window w).state = .free → s.window w = .cleared

/-- R2, R8: every window that is not FREE, and every pending change, lies within the bounds of its space. -/
abbrev State.RangeLaw (s : State) : Prop :=
  ∀ w, ((s.window w).state ≠ .free → rangeOk (s.window w).base (s.window w).length (s.window w).target = true)
    ∧ ∀ c ∈ (s.window w).change, rangeOk c.base c.length c.target = true

/-- R17: two windows of one space and one layer never cover a common unit. -/
def State.OverlapLaw (s : State) : Prop :=
  ∀ v w, v ≠ w → ∀ space unit, (s.window v).covers space unit = true → (s.window w).covers space unit = true →
    (s.window v).layer ≠ (s.window w).layer

/-- R4, R8: a window that is ACTIVE, HELD or SUSPENDED serves an ONLINE slot, and so does the slot a HELD window is
bound for. -/
abbrev State.ServiceLaw (s : State) : Prop :=
  ∀ w, ((s.window w).state ≠ .free → (s.window w).state ≠ .draining →
      (s.slot (s.window w).slot).state = .online)
    ∧ ∀ c ∈ (s.window w).change, (s.slot c.slot).state = .online

/-- R51, R50: the strike limit is from 1 to 15, the strikes of an ACTIVE or HELD window are below it, and no window's
strikes exceed 15. -/
abbrev State.StrikeLaw (s : State) : Prop :=
  (1 ≤ s.strikeLimit ∧ s.strikeLimit ≤ 15)
    ∧ ∀ w, ((s.window w).state = .active ∨ (s.window w).state = .held → (s.window w).strikes < s.strikeLimit)
      ∧ (s.window w).strikes ≤ 15

/-- The captured command's name, when there is one. -/
def Context.command (c : Context) : Option Command := c.captured.bind fun x => commandOf x.code

/-- R8, R9, R114: the pending change is present exactly while HELD; a waiting context only while HELD or DRAINING, and
always while HELD; window and context name each other; a HELD window waits for a MOVE or a RESIZE, a DRAINING one for
a RETIRE. -/
structure State.WaitLaw (s : State) : Prop where
  change_iff_held : ∀ w, (s.window w).change.isSome = true ↔ (s.window w).state = .held
  held_waits : ∀ w, (s.window w).state = .held → (s.window w).waiting.isSome = true
  waiting_state : ∀ w, (s.window w).waiting.isSome = true → (s.window w).state = .held ∨ (s.window w).state = .draining
  named : ∀ w m, (s.window w).waiting = some m ↔
    (s.context m).state = .waiting ∧ (s.context m).waitingWindow = some w
  waits_on : ∀ m, (s.context m).waitingWindow.isSome = true ↔ (s.context m).state = .waiting
  held_command : ∀ w m, (s.window w).state = .held → (s.window w).waiting = some m →
    (s.context m).command = some .move ∨ (s.context m).command = some .resize
  draining_command : ∀ w m, (s.window w).state = .draining → (s.window w).waiting = some m →
    (s.context m).command = some .retire

/-- R105, R109, R120: the queue holds exactly the QUEUED masters, each once; no context rests ACTIVE; the captured
command is present exactly while QUEUED or WAITING; result and result words are NONE and zero but in COMPLETE. -/
structure State.QueueLaw (s : State) : Prop where
  nodup : s.queue.Nodup
  queued : ∀ m, m ∈ s.queue ↔ (s.context m).state = .queued
  not_active : ∀ m, (s.context m).state ≠ .active
  captured : ∀ m, (s.context m).captured.isSome = true ↔
    (s.context m).state = .queued ∨ (s.context m).state = .waiting
  result : ∀ m, (s.context m).state ≠ .complete → (s.context m).result = .none ∧ (s.context m).results = .zero

/-- R112: "The issuer is enabled at every take": a QUEUED master is enabled. -/
abbrev State.EnabledLaw (s : State) : Prop := ∀ m, (s.context m).state = .queued → (s.master m).enabled = true

/-- R98: "At least one master is both enabled and a supervisor." -/
abbrev State.SupervisorLaw (s : State) : Prop := ∃ m, (s.master m).enabled = true ∧ (s.master m).supervisor = true

/-- R58: at most 32 entries, and no two of one master and tag. -/
abbrev State.OrtLaw (s : State) : Prop := s.ort.length ≤ Config.ortCapacity ∧ (s.ort.map (·.key)).Nodup

/-- The entry is EXPIRED. -/
def OrtEntry.isExpired (e : OrtEntry) : Bool :=
  match e.state with
  | .expired _ => true
  | .reserved => false
  | .waiting _ => false

/-- R76: "The fault-reply queue holds exactly the EXPIRED ORT entries, each once." -/
abbrev State.FaultQueueLaw (s : State) : Prop :=
  s.faultQueue.Nodup ∧ ∀ k, k ∈ s.faultQueue ↔ ∃ e ∈ s.ort, e.key = k ∧ e.isExpired = true

/-- R77, R78, R164: IDLE exactly while the fault-reply queue is empty, and no current cycle exists in a tenure. -/
abbrev State.MastershipLaw (s : State) : Prop :=
  (s.mastership = .idle ↔ s.faultQueue = []) ∧ (s.mastership = .holding → s.current = none)

/-- R38, R59: a RESERVED entry is the current cycle's own, and the current SPLIT READ has its entry RESERVED. -/
structure State.ReservedLaw (s : State) : Prop where
  of_entry : ∀ e ∈ s.ort, e.state = .reserved → ∃ c, s.current = some c ∧ c.master = e.master
    ∧ c.kind = .splitRead e.tag ∧ c.window = e.window ∧ c.slot = e.slot
  of_cycle : ∀ c tag, s.current = some c → c.kind = .splitRead tag →
    ∃ e ∈ s.ort, e.key = (c.master, tag) ∧ e.state = .reserved ∧ e.window = c.window ∧ e.slot = c.slot

/-- R10, R15, R60: what is in flight names a window that is neither FREE nor entry 0 and that still serves the slot
recorded; ORT entries name MEM windows (R25). -/
structure State.ReferenceLaw (s : State) : Prop where
  entry : ∀ e ∈ s.ort, e.window ≠ 0 ∧ (s.window e.window).state ≠ .free ∧ (s.window e.window).slot = e.slot
    ∧ (s.window e.window).space = .mem ∧ e.unit < Config.units
  cycle : ∀ c, s.current = some c → c.window ≠ 0 ∧ (s.window c.window).state ≠ .free
    ∧ (s.window c.window).slot = c.slot

/-- R85, R86, R93: slot 0 is present and ONLINE; a slot is ABSENT exactly when not present; limits are from 1 to
255. -/
structure State.SlotLaw (s : State) : Prop where
  slot_zero : (s.slot 0).present = true ∧ (s.slot 0).state = .online
  absent : ∀ k, (s.slot k).state = .absent ↔ (s.slot k).present = false
  limits : ∀ k, (1 ≤ (s.slot k).ackLimit ∧ (s.slot k).ackLimit ≤ 255)
    ∧ 1 ≤ (s.slot k).replyLimit ∧ (s.slot k).replyLimit ≤ 255

/-- R86: while INIT is released, the presence field of slots 1 to 15 is the level of the slot's PRS line. -/
abbrev State.PresenceLaw (s : State) : Prop :=
  s.pins.init = false → ∀ k, k ≠ 0 → (s.slot k).present = s.prsLevel k

/-- R42, R63: the acknowledge timer and the deadlines run within the greatest limits, 255 steps each. -/
abbrev State.ClockLaw (s : State) : Prop :=
  (∀ c ∈ s.current, c.timer ≤ 255)
    ∧ ∀ e ∈ s.ort, ∀ d, e.state = .waiting d → d ≤ 255 * Config.ticksPerReplyStep

/-- R155: the subject is present and the count at least 1 exactly while the flag is raised; the count is at most
255. -/
abbrev ReasonRecord.Sound (r : ReasonRecord) : Prop :=
  (r.subject.isSome = r.raised) ∧ (r.raised = true ↔ 1 ≤ r.count) ∧ r.count ≤ Config.countMax

/-- R155, for the three records. -/
abbrev State.AttentionLaw (s : State) : Prop := ∀ r, (s.attention.get r).Sound

/-- R34 to R38, R70, R78, R169: every line is released but in a selected cycle, whose slot alone may have SEL and is not
quieted, and in a tenure, in which the part drives AST, data, source and destination alone. VOID never stands outside
the reply it voids. -/
abbrev State.LinesLaw (s : State) : Prop :=
  match s.current with
  | none => s.lines = .idle ∨ s.mastership = .holding ∧ s.lines.sel = none ∧ s.lines.lof = none
      ∧ (∀ k : SlotId, s.lines.qt[k] = false) ∧ s.lines.void = false
  | some c => (s.lines.sel = none ∨ s.lines.sel = some c.slot) ∧ s.lines.lof.isSome = true
    ∧ s.lines.qt[c.slot] = false ∧ s.lines.ast = .released ∧ s.lines.data = none ∧ s.lines.source = none
    ∧ s.lines.dest = none ∧ s.lines.void = false

/-- While INIT is asserted nothing is in flight, queued or waiting, and the Window Table holds Table 2-3 (R22, R41,
R84, R121). -/
abbrev State.InitLaw (s : State) : Prop :=
  s.pins.init = true → s.current = none ∧ s.ort = [] ∧ s.faultQueue = [] ∧ s.mastership = .idle ∧ s.queue = []
    ∧ ∀ w, s.window w = initWindow w

/-- All the laws of the device together. -/
structure State.DeviceLaws (s : State) : Prop where
  port : s.PortLaw
  cleared : s.ClearedLaw
  range : s.RangeLaw
  overlap : s.OverlapLaw
  service : s.ServiceLaw
  strike : s.StrikeLaw
  wait : s.WaitLaw
  queue : s.QueueLaw
  enabled : s.EnabledLaw
  supervisor : s.SupervisorLaw
  ort : s.OrtLaw
  faultQueue : s.FaultQueueLaw
  mastership : s.MastershipLaw
  reserved : s.ReservedLaw
  reference : s.ReferenceLaw
  slots : s.SlotLaw
  presence : s.PresenceLaw
  clock : s.ClockLaw
  attention : s.AttentionLaw
  lines : s.LinesLaw
  init : s.InitLaw

/-! ## Vocabulary of the statements

What the rules say of an event, in words of the state alone: no meaning of a command is called here. -/

/-- INIT is released and the bus carries no cycle: no selected cycle, no tenure of the part (R39). -/
structure State.BusReady (s : State) : Prop where
  released : s.pins.init = false
  noCycle : s.current = none
  noTenure : s.mastership ≠ .holding

/-- Master m can make a served port cycle: the bus is ready, m is enabled (R24), entry 0 stands as R19 has it and no
window meets another at its layer (R17). -/
structure State.PortReady (s : State) (m : MasterId) : Prop extends s.BusReady where
  enabled : (s.master m).enabled = true
  port : s.PortLaw
  overlap : s.OverlapLaw

/-- w is the top window of the unit: it covers it, and every other covering window sits at a lower layer (R16). -/
structure State.IsTop (s : State) (space : Space) (unit : Nat) (w : WindowId) : Prop where
  covers : (s.window w).covers space unit = true
  highest : ∀ v, v ≠ w → (s.window v).covers space unit = true → (s.window v).layer < (s.window w).layer

/-- The master has the right that a cycle needs: the write set for a WRITE, the read set otherwise (R28). -/
def Window.allows (win : Window) (m : MasterId) : CycleKind → Prop
  | .read => win.readSet.getLsbD m.val = true
  | .write _ => win.writeSet.getLsbD m.val = true
  | .splitRead _ => win.readSet.getLsbD m.val = true

/-- The lines as a cycle or a reply showed them, with AST and VOID given and all the rest released (R39, R65, R70). -/
structure Lines.OnlyDrives (l : Lines) (ast : AstLines) (void : Bool) : Prop where
  ast : l.ast = ast
  void : l.void = void
  sel : l.sel = none
  quiet : ∀ k : SlotId, l.qt[k] = false
  lof : l.lof = none
  data : l.data = none
  source : l.source = none
  dest : l.dest = none

/-- Every line is released (R36, R70, R169). -/
abbrev State.LinesReleased (t : State) : Prop := t.lines.OnlyDrives .released false

/-- From s the part answers or serves the cycle itself: through the cycle it drives the status on AST, the data given,
QT for every SELF-mode slot, and nothing else (Table 3-3), and at its end it has released them all; t differs from s in
the lines alone. -/
structure State.AnswersTo (s t : State) (status : Status) (data : Option Word) : Prop where
  frame : t = { s with lines := t.lines, shown := t.shown }
  ast : t.shown.ast = .byPart status
  data : t.shown.data = data
  sel : t.shown.sel = none
  quiet : ∀ k : SlotId, t.shown.qt[k] = true ↔ (s.slot k).mode = .selfDecoding
  lof : t.shown.lof = none
  noReply : t.shown.source = none ∧ t.shown.dest = none ∧ t.shown.void = false
  released : t.LinesReleased

/-- From s the part selects the serving slot of window w for a cycle of master m at the unit: the current-cycle record
is made, its timer started from the slot's limit, SEL, QT and LOF driven, AST and data left to the slave (R33 to R38);
the lines stand, and t differs from s in the record and the lines alone. -/
structure State.SelectsFor (s t : State) (m : MasterId) (kind : CurrentKind) (w : WindowId) (unit : Nat) : Prop where
  frame : t = { s with current := t.current, lines := t.lines, shown := t.lines }
  record : t.current = some ⟨m, kind, w, (s.window w).slot, (s.slot (s.window w).slot).ackLimit⟩
  sel_directed : (s.slot (s.window w).slot).mode = .directed → t.lines.sel = some (s.window w).slot
  sel_self : (s.slot (s.window w).slot).mode = .selfDecoding → t.lines.sel = none
  quiet : ∀ k : SlotId, t.lines.qt[k] = true ↔ (s.slot k).mode = .selfDecoding ∧ k ≠ (s.window w).slot
  lof_plain : (s.window w).target = none → t.lines.lof = some (BitVec.ofNat 12 unit)
  lof_target : ∀ n, (s.window w).target = some n → t.lines.lof = some (BitVec.ofNat 12 (n + (unit - (s.window w).base)))
  noDrive : t.lines.ast = .released ∧ t.lines.data = none ∧ t.lines.source = none ∧ t.lines.dest = none
    ∧ t.lines.void = false

/-- The engine is about to take the command captured in the context of m, which heads the queue (R110). -/
structure State.Takes (s : State) (m : MasterId) (rest : List MasterId) (cmd : Captured) : Prop where
  released : s.pins.init = false
  head : s.queue = m :: rest
  captured : (s.context m).captured = some cmd

/-- A context COMPLETE with a result; staging words and overrun flag are kept (R113, R115). -/
def Context.endsWith (c : Context) (code : ResultCode) (results : Words) : Context where
  state := .complete
  staging := c.staging
  captured := none
  result := code
  results := results
  overrun := c.overrun
  waitingWindow := none

/-- A take that ends with a result: the head has left the queue and its context is COMPLETE (R110, R113). -/
def State.takeEnds (s : State) (m : MasterId) (rest : List MasterId) (code : ResultCode) (results : Words) : State :=
  { s with queue := rest }.setContext m ((s.context m).endsWith code results)

/-- A take that leaves window w waiting: the head has left the queue, its context is WAITING on w and keeps its
command, and w names it (R114). `win` is the window as the command leaves it. -/
def State.takeWaits (s : State) (m : MasterId) (rest : List MasterId) (w : WindowId) (win : Window) : State :=
  ({ s with queue := rest }.setWindow w { win with waiting := some m }).setContext m
    { s.context m with state := .waiting, waitingWindow := some w }

/-- The command names a window that the issuer may command: word 0 is its id, it is not FREE, not entry 0, and the
issuer is its sponsor or a supervisor (R111, R112). -/
structure State.MayCommand (s : State) (m : MasterId) (cmd : Captured) (w : WindowId) : Prop where
  named : cmd.words.w0.toNat = w.val
  notFree : (s.window w).state ≠ .free
  notPort : w ≠ 0
  authority : (s.window w).sponsor = m ∨ (s.master m).supervisor = true

/-- Something in flight names the window: an ORT entry or the current cycle (R10). -/
def State.Referenced (s : State) (w : WindowId) : Prop :=
  (∃ e ∈ s.ort, e.window = w) ∨ ∃ c, s.current = some c ∧ c.window = w

/-- Some window other than `own` covers, at the layer, a unit of the range: what the OVERLAP check refuses (R17). -/
def State.Collides (s : State) (own : Option WindowId) (space : Space) (layer : Fin 4) (base length : Nat) : Prop :=
  ∃ v unit, own ≠ some v ∧ (s.window v).layer = layer ∧ (s.window v).covers space unit = true
    ∧ base ≤ unit ∧ unit < base + length

/-- The bounds of R2 on a base, a length and a target (R122). -/
structure InBounds (base length : Nat) (target : Option Nat) : Prop where
  baseIn : base ≤ 4095
  lengthIn : 1 ≤ length ∧ length ≤ 4096
  sumIn : base + length ≤ 4096
  targetIn : ∀ n ∈ target, n ≤ 4095 ∧ n + length ≤ 4096

/-- The value of a result word that carries a target and its presence (Table 12-4). -/
def targetWord : Option Nat → Word
  | none => 0
  | some n => BitVec.ofNat 16 (n + 32768)

/-- The result words of a RESIZE or a MOVE that is DONE: id, base, length, slot, target (R131). -/
def doneShape (id : WindowId) (win : Window) : Words :=
  ⟨BitVec.ofNat 16 id.val, BitVec.ofNat 16 win.base, BitVec.ofNat 16 win.length, BitVec.ofNat 16 win.slot.val,
    targetWord win.target⟩

/-- The result words of a RETIRE that is DONE: id, base, length, slot (R143). -/
def doneRetire (id : WindowId) (win : Window) : Words :=
  ⟨BitVec.ofNat 16 id.val, BitVec.ofNat 16 win.base, BitVec.ofNat 16 win.length, BitVec.ofNat 16 win.slot.val, 0⟩

/-- Result words that carry a window's or a slot's number in word 0 and zero in the rest. -/
def numberWords (n : Nat) : Words := ⟨BitVec.ofNat 16 n, 0, 0, 0, 0⟩

/-- A record after one raise with a subject: the first raise since a clear makes the subject, later ones keep it and
count up to 255 (R155). -/
structure ReasonRecord.RaisedTo (r r' : ReasonRecord) (subject : Nat) : Prop where
  first : r.raised = false → r' = ⟨true, some subject, 1⟩
  again : r.raised = true → r' = ⟨true, r.subject, min (r.count + 1) 255⟩

/-- The window and the SUSPENDED record after a strike on window w: only an ACTIVE window counts it, the strike that
reaches the limit suspends it and raises SUSPENDED with its id, and against a window in any other state no reason is
raised (R48, R52). -/
structure State.Struck (s t : State) (w : WindowId) : Prop where
  counted : (s.window w).state = .active → (s.window w).strikes + 1 ≠ s.strikeLimit →
    t.window w = { s.window w with strikes := (s.window w).strikes + 1 } ∧ t.attention = s.attention
  suspends : (s.window w).state = .active → (s.window w).strikes + 1 = s.strikeLimit →
    t.window w = { s.window w with strikes := (s.window w).strikes + 1, state := .suspended }
      ∧ s.attention.suspended.RaisedTo t.attention.suspended w.val
      ∧ t.attention.slotLost = s.attention.slotLost ∧ t.attention.orphanReply = s.attention.orphanReply
  suspended : (s.window w).state = .suspended → t.window w = s.window w ∧ t.attention = s.attention
  unraised : (s.window w).state ≠ .active → t.attention = s.attention

/-- The window after a strike clear on window w: only an ACTIVE window is cleared (R49). -/
structure State.StrikesCleared (s t : State) (w : WindowId) : Prop where
  cleared : (s.window w).state = .active → t.window w = { s.window w with strikes := 0 }
  suspended : (s.window w).state = .suspended → t.window w = s.window w

/-- What the drain check makes of window w, HELD or DRAINING in s, when an event takes references away and t is what
the event leaves: with references left nothing changes; without, a HELD window takes its pending change and its
context completes DONE, and a DRAINING one becomes FREE and its context, if any, completes DONE
(R133, R145, R147, R115). -/
structure State.Drained (s t : State) (w : WindowId) : Prop where
  remains : t.Referenced w → t.window w = s.window w ∧ t.contexts = s.contexts
  applied : ∀ c m, ¬ t.Referenced w → (s.window w).state = .held → (s.window w).change = some c →
    (s.window w).waiting = some m →
    (t.window w = { s.window w with
        state := .active, base := c.base, length := c.length, slot := c.slot, target := c.target, change := none,
        waiting := none, strikes := if (s.context m).command = some .move then 0 else (s.window w).strikes })
      ∧ t.context m = (s.context m).endsWith .done (doneShape w (t.window w))
      ∧ ∀ n, n ≠ m → t.context n = s.context n
  freed : ¬ t.Referenced w → (s.window w).state = .draining →
    t.window w = .cleared
      ∧ (∀ m, (s.window w).waiting = some m →
        t.context m = (s.context m).endsWith .done (doneRetire w (s.window w)))
      ∧ ∀ n, (s.window w).waiting ≠ some n → t.context n = s.context n

/-- What a forced drain of slot k makes of a window record; `inFlight` says that references remain (Table 9-2). -/
structure Window.ForcedDrain (before after : Window) (k : SlotId) (inFlight : Prop) : Prop where
  free : before.state = .free → after = before
  other : before.slot ≠ k → (∀ c ∈ before.change, c.slot ≠ k) → after = before
  bound : before.state = .held → before.slot ≠ k → (∃ c ∈ before.change, c.slot = k) →
    after = { before with state := .active, change := none, waiting := none }
  drains : before.state = .active ∨ before.state = .suspended ∨ before.state = .held → before.slot = k → inFlight →
    after = { before with state := .draining, change := none, waiting := none }
  draining : before.state = .draining → before.slot = k → inFlight → after = before
  freed : before.state ≠ .free → before.slot = k → ¬ inFlight → after = .cleared

/-- What a forced drain of slot k makes of the context of master n, which the event itself does not otherwise reach:
a wait on a HELD window of the slot ends WITHDRAWN, one on a window bound for it BAD-SLOT, a RETIRE whose window is
freed DONE, and any other context is left (R90, R115, R148). -/
structure State.ForcedDrainContext (s t : State) (k : SlotId) (n : MasterId) : Prop where
  withdrawn : ∀ w, (s.window w).waiting = some n → (s.window w).state = .held → (s.window w).slot = k →
    t.context n = (s.context n).endsWith .withdrawn (numberWords w.val)
  badSlot : ∀ w, (s.window w).waiting = some n → (s.window w).state = .held → (s.window w).slot ≠ k →
    (∃ c ∈ (s.window w).change, c.slot = k) → t.context n = (s.context n).endsWith .badSlot (numberWords w.val)
  retired : ∀ w, (s.window w).waiting = some n → (s.window w).state = .draining → (s.window w).slot = k →
    ¬ t.Referenced w → t.context n = (s.context n).endsWith .done (doneRetire w (s.window w))
  waits : ∀ w, (s.window w).waiting = some n → (s.window w).state = .draining →
    (s.window w).slot ≠ k ∨ t.Referenced w → t.context n = s.context n
  other : ∀ w, (s.window w).waiting = some n → (s.window w).state = .held → (s.window w).slot ≠ k →
    (∀ c ∈ (s.window w).change, c.slot ≠ k) → t.context n = s.context n
  idle : (∀ w, (s.window w).waiting ≠ some n) → t.context n = s.context n

/-- The seven window commands, by row and code (Table 7-3). -/
def windowRows : List (Instr × Word) :=
  [(.resize, 0x02), (.move, 0x03), (.restack, 0x04), (.grant, 0x05), (.handover, 0x06), (.retire, 0x07),
    (.reinstate, 0x08)]

/-- The five Registry commands, by row and code (Table 7-3). -/
def registryRows : List (Instr × Word) :=
  [(.setSlot, 0x10), (.slotOnline, 0x11), (.slotOffline, 0x12), (.setMaster, 0x13), (.tune, 0x14)]

/-- Every command the engine takes, by row and code (Table 7-3). -/
def codedRows : List (Instr × Word) :=
  (.claim, 0x01) :: windowRows ++ registryRows ++ [(.inspect, 0x18), (.resolve, 0x19)]

/-- The rows of the engine's takes, BAD_COMMAND to RESOLVE. -/
def takeRows : List Instr :=
  [.badCommand, .claim, .resize, .move, .restack, .grant, .handover, .retire, .reinstate, .setSlot, .slotOnline,
    .slotOffline, .setMaster, .tune, .inspect, .resolve]

/-! ### Codes of Tables 7-5 and 12-2 -/

/-- Context state codes (Table 12-2). -/
def contextStateCodes : List (ContextState × Nat) :=
  [(.empty, 0), (.queued, 1), (.active, 2), (.waiting, 3), (.complete, 4)]

/-- Result codes (Table 7-5). -/
def resultCodes : List (ResultCode × Nat) :=
  [(.none, 0), (.done, 1), (.badCommand, 2), (.noAuthority, 3), (.noWindow, 4), (.protectedEntry, 5), (.badRange, 6),
    (.overlap, 7), (.tableFull, 8), (.windowBusy, 9), (.badSlot, 10), (.badState, 11), (.lastSupervisor, 12),
    (.abandoned, 13), (.withdrawn, 14), (.disabled, 15), (.badOperand, 16)]

/-- Window state codes (Table 12-2). -/
def windowStateCodes : List (WinState × Nat) :=
  [(.free, 0), (.active, 1), (.held, 2), (.draining, 3), (.suspended, 4)]

/-- Slot state codes (Table 12-2). -/
def slotStateCodes : List (SlotState × Nat) := [(.absent, 0), (.offline, 1), (.online, 2)]

end Sys2Proof.Machine
end

