-- ==== Sys2Proof/Certificates/Slice0/Obligations.lean ====
section
/-!
DEFINITION. The statements for the provers. Each gives the whole next state of an event, or what it holds and what it
leaves, in the vocabulary of Sys2Proof/Safety.lean.
-/

open Sys2Proof Sys2Proof.Machine

/-! ## The block -/

/-- A step runs the command at the front of the queue on the state with the rest of the queue. -/
def Obligations.StepRunsFrontCommand : Prop :=
  ∀ (c : Instr) (rest : List Instr) (s : State), s.pending = c :: rest → step s = exec c { s with pending := rest }

/-- With no command waiting, 0.25 us pass: the acknowledge timer and each deadline run down by one unit, stopping at
0, and nothing else changes. The model's choice (log 5). -/
def Obligations.IdleStepRunsClocks : Prop :=
  ∀ s : State, s.pending = [] → ∃ t, step s = .next t
    ∧ t = { s with current := t.current, ort := t.ort }
    ∧ (s.current = none → t.current = none)
    ∧ (∀ c, s.current = some c → t.current = some { c with timer := c.timer - 1 })
    ∧ t.ort = s.ort.map fun e =>
        match e.state with
        | .waiting d => { e with state := .waiting (d - 1) }
        | _ => e

/-- The contents of every block right after reset. The levels of the PRS and MODE lines are the model's choice
(log 1). -/
def Obligations.ResetContents : Prop :=
  State.reset.window 0 = ⟨.active, .io, 4095, 1, 3, 0, 0xFF, 0xFF, none, 0, 0, none, none⟩
    ∧ State.reset.window 1 = ⟨.active, .mem, 0, 16, 3, 0, 0xFF, 0, none, 0, 0, none, none⟩
    ∧ (∀ w : WindowId, 2 ≤ w.val →
        State.reset.window w = ⟨.free, .mem, 0, 0, 0, 0, 0, 0, none, 0, 0, none, none⟩)
    ∧ State.reset.current = none ∧ State.reset.ort = [] ∧ State.reset.faultQueue = []
    ∧ State.reset.mastership = .idle
    ∧ State.reset.slot 0 = ⟨true, .online, .directed, 40, 64⟩
    ∧ (∀ k : SlotId, k ≠ 0 → State.reset.slot k = ⟨false, .absent, .directed, 40, 64⟩)
    ∧ State.reset.master 0 = ⟨true, true⟩ ∧ (∀ m : MasterId, m ≠ 0 → State.reset.master m = ⟨true, false⟩)
    ∧ State.reset.strikeLimit = 3 ∧ State.reset.selection = none
    ∧ (∀ m : MasterId, State.reset.context m
        = ⟨.empty, ⟨0, 0, 0, 0, 0⟩, none, .none, ⟨0, 0, 0, 0, 0⟩, false, none⟩)
    ∧ State.reset.queue = []
    ∧ State.reset.attention = ⟨⟨false, none, 0⟩, ⟨false, none, 0⟩, ⟨false, none, 0⟩⟩
    ∧ State.reset.LinesReleased ∧ State.reset.shown.OnlyDrives .released false
    ∧ State.reset.freeEntries = 62

/-- INIT asserted and released over an empty rack leads from every state to the reset state; only the waiting commands
stay. That the reset state is this one is the model's choice (log 1). -/
def Obligations.InitAndReleaseIsReset : Prop :=
  ∀ s : State, ∃ t, exec .init s = .next t
    ∧ exec (.initRelease 0 0) t = .next { State.reset with pending := s.pending }

/-! ## INIT and the presence lines -/

/-- INIT asserted: every block takes its start-up contents, whatever it held; nothing is completed, raised, struck or
checked. Which Registry fields wait for the release is DEDUCED (log 4). -/
def Obligations.InitAsserted : Prop :=
  ∀ s : State, ∃ t, exec .init s = .next t
    ∧ (t.window 0 = ⟨.active, .io, 4095, 1, 3, 0, 0xFF, 0xFF, none, 0, 0, none, none⟩
      ∧ t.window 1 = ⟨.active, .mem, 0, 16, 3, 0, 0xFF, 0, none, 0, 0, none, none⟩
      ∧ ∀ w : WindowId, 2 ≤ w.val → t.window w = ⟨.free, .mem, 0, 0, 0, 0, 0, 0, none, 0, 0, none, none⟩)
    ∧ (t.current = none ∧ t.LinesReleased ∧ t.shown.OnlyDrives .released false)
    ∧ (t.ort = [] ∧ t.faultQueue = [] ∧ t.mastership = .idle)
    ∧ ((∀ k, (t.slot k).ackLimit = 40 ∧ (t.slot k).replyLimit = 64 ∧ (t.slot k).present = (s.slot k).present
        ∧ (t.slot k).state = (s.slot k).state ∧ (t.slot k).mode = (s.slot k).mode)
      ∧ t.master 0 = ⟨true, true⟩ ∧ (∀ m : MasterId, m ≠ 0 → t.master m = ⟨true, false⟩)
      ∧ t.strikeLimit = 3 ∧ t.selection = none)
    ∧ ((∀ m, t.context m = ⟨.empty, ⟨0, 0, 0, 0, 0⟩, none, .none, ⟨0, 0, 0, 0, 0⟩, false, none⟩) ∧ t.queue = [])
    ∧ (t.attention = ⟨⟨false, none, 0⟩, ⟨false, none, 0⟩, ⟨false, none, 0⟩⟩ ∧ ∀ n, t.atnAsserted n = false)
    ∧ t.pins = { s.pins with init := true } ∧ t.pending = s.pending

/-- INIT released: slot 0 is present and ONLINE, every other slot as its PRS line stands, modes as the straps stand,
and limits, masters and settings at their start-up values; the other blocks are not touched. -/
def Obligations.InitReleased : Prop :=
  ∀ (s : State) (prs mode : BitVec 16), s.pins.init = true → ∃ t, exec (.initRelease prs mode) s = .next t
    ∧ t = { s with
        slots := t.slots, masters := t.masters, strikeLimit := 3, selection := none, pins := t.pins }
    ∧ ((t.slot 0).present = true ∧ (t.slot 0).state = .online)
    ∧ (∀ k : SlotId, k ≠ 0 → prs.getLsbD k.val = true → (t.slot k).present = true ∧ (t.slot k).state = .online)
    ∧ (∀ k : SlotId, k ≠ 0 → prs.getLsbD k.val = false → (t.slot k).present = false ∧ (t.slot k).state = .absent)
    ∧ (∀ k : SlotId, ((t.slot k).mode = .selfDecoding ↔ mode.getLsbD k.val = true)
        ∧ (t.slot k).ackLimit = 40 ∧ (t.slot k).replyLimit = 64)
    ∧ t.master 0 = ⟨true, true⟩ ∧ (∀ m : MasterId, m ≠ 0 → t.master m = ⟨true, false⟩)
    ∧ t.pins.init = false
    ∧ ∀ k : SlotId, (k ≠ 0 → t.prsLevel k = prs.getLsbD k.val) ∧ t.pins.mode[k] = (t.slot k).mode

/-- While INIT is asserted the part takes no other event: an edge of a PRS line moves the pins alone, and every other
event changes nothing. That the other events change nothing is DEDUCED (log 3). -/
def Obligations.HeldWhileInitAsserted : Prop :=
  ∀ s : State, s.pins.init = true →
    (∀ c : Instr, c ≠ .init → (∀ p m, c ≠ .initRelease p m) → (∀ k, c ≠ .presenceLoss k) →
      (∀ k m, c ≠ .presenceReturn k m) → exec c s = .next s)
    ∧ (∀ k : SlotId, k ≠ 0 → s.prsLevel k = true →
        exec (.presenceLoss k) s = .next { s with pins := { s.pins with prs := s.pins.prs.set k false } })
    ∧ ∀ (k : SlotId) (mode : Mode), k ≠ 0 → s.prsLevel k = false →
        exec (.presenceReturn k mode) s
          = .next { s with pins := ⟨true, s.pins.prs.set k true, s.pins.mode.set k mode⟩ }

/-- The events that the spec says cannot arise stop the model under a name of their own (log 2): a cycle or a grant
while the bus is held, a reply to a RESERVED entry, a take that is not of the head of the queue, the end of a fault
reply that is not under way, a presence edge that is none, the release of an INIT that is not asserted. -/
def Obligations.ImpossibleEventsStop : Prop :=
  ∀ s : State,
    (s.pins.init = false → s.current ≠ none ∨ s.mastership = .holding →
      (∀ a m kind width, exec (.addressPhase a m kind width) s = .fault .busBusy)
      ∧ (∀ m tag k data status, exec (.replyCycle m tag k data status) s = .fault .busBusy))
    ∧ (s.pins.init = false → s.current ≠ none → exec .mastershipGrant s = .fault .busBusy)
    ∧ (s.pins.init = false → s.queue = [] → ∀ c ∈ takeRows, exec c s = .fault .notAtHead)
    ∧ (∀ m rest cmd, s.Takes m rest cmd →
        (∀ p ∈ codedRows, cmd.code ≠ p.2 → exec p.1 s = .fault .notAtHead)
        ∧ ∀ p ∈ codedRows, cmd.code = p.2 → exec .badCommand s = .fault .notAtHead)
    ∧ (s.pins.init = false → s.OrtLaw → ∀ e ∈ s.ort, e.state = .reserved → ∀ source data status,
        exec (.replyCycle e.master e.tag source data status) s = .fault .busBusy)
    ∧ (s.pins.init = false → s.mastership ≠ .holding → exec .faultReplyEnd s = .fault .noFaultReply)
    ∧ (∀ k, s.prsLevel k = false → exec (.presenceLoss k) s = .fault .noEdge)
    ∧ (∀ k mode, s.prsLevel k = true → exec (.presenceReturn k mode) s = .fault .noEdge)
    ∧ (exec (.presenceLoss 0) s = .fault .noEdge ∧ ∀ mode, exec (.presenceReturn 0 mode) s = .fault .noEdge)
    ∧ (s.pins.init = false → ∀ prs mode, exec (.initRelease prs mode) s = .fault .initNotAsserted)

/-- A presence return: present, OFFLINE, mode sampled, limits kept; no window, entry or reason is touched (R92). -/
def Obligations.PresenceReturn : Prop :=
  ∀ (s : State) (k : SlotId) (mode : Mode), s.pins.init = false → k ≠ 0 → s.prsLevel k = false →
    exec (.presenceReturn k mode) s = .next
      { s with
        slots := s.slots.set k ⟨true, .offline, mode, (s.slot k).ackLimit, (s.slot k).replyLimit⟩
        pins := { s.pins with prs := s.pins.prs.set k true, mode := s.pins.mode.set k mode } }

/-- A presence loss at the slot record, the current cycle and the attention records: the slot is ABSENT with its mode
and limits kept, a current cycle on it ends WITHDRAWN, SLOT-LOST is raised with its number; Registry, queue and
settings are otherwise left (R89, R91). -/
def Obligations.PresenceLossSlotCycleAttention : Prop :=
  ∀ (s : State) (k : SlotId), s.pins.init = false → k ≠ 0 → s.prsLevel k = true →
    ∃ t, exec (.presenceLoss k) s = .next t
    ∧ t.slot k = ⟨false, .absent, (s.slot k).mode, (s.slot k).ackLimit, (s.slot k).replyLimit⟩
    ∧ (∀ j, j ≠ k → t.slot j = s.slot j)
    ∧ (∀ c, s.current = some c → c.slot = k → t.current = none
        ∧ t.shown = { s.lines with ast := .byPart .withdrawn } ∧ t.LinesReleased)
    ∧ ((∀ c, s.current = some c → c.slot ≠ k) →
        t.current = s.current ∧ t.lines = s.lines ∧ t.shown = s.shown)
    ∧ s.attention.slotLost.RaisedTo t.attention.slotLost k.val
    ∧ t.attention.suspended = s.attention.suspended ∧ t.attention.orphanReply = s.attention.orphanReply
    ∧ t.masters = s.masters ∧ t.strikeLimit = s.strikeLimit ∧ t.selection = s.selection ∧ t.queue = s.queue
    ∧ t.pins = { s.pins with prs := s.pins.prs.set k false } ∧ t.pending = s.pending

/-- A presence loss at the Read Tracker: the slot's RESERVED entry is removed, its WAITING entries become EXPIRED with
WITHDRAWN and join the tail of the fault-reply queue in creation order, its EXPIRED entries and the entries of other
slots stay; the request is asserted if entries joined while IDLE (R74). -/
def Obligations.PresenceLossReads : Prop :=
  ∀ (s : State) (k : SlotId), s.DeviceLaws → s.pins.init = false → k ≠ 0 → s.prsLevel k = true →
    ∃ t, exec (.presenceLoss k) s = .next t
    ∧ t.ort = (s.ort.filter fun e => !(e.slot == k && e.state == .reserved)).map (fun e =>
        match e.state with
        | .waiting _ => if e.slot = k then { e with state := .expired .withdrawn } else e
        | _ => e)
    ∧ t.faultQueue = s.faultQueue ++ (s.ort.filter fun e =>
        match e.state with
        | .waiting _ => e.slot == k
        | _ => false).map (fun e => (e.master, e.tag))
    ∧ (s.mastership = .idle → t.faultQueue ≠ [] → t.mastership = .requesting)
    ∧ (s.mastership ≠ .idle ∨ t.faultQueue = [] → t.mastership = s.mastership)
    ∧ ∀ w, (t.window w).state = .draining → (t.window w).strikes = (s.window w).strikes

/-- A presence loss at the windows and the contexts that wait on them: the forced drain of Table 9-2, where a window is
FREE after the event exactly when nothing in flight names it any more (R90, R148). -/
def Obligations.PresenceLossDrains : Prop :=
  ∀ (s : State) (k : SlotId), s.DeviceLaws → s.pins.init = false → k ≠ 0 → s.prsLevel k = true →
    ∃ t, exec (.presenceLoss k) s = .next t
    ∧ (∀ w, (s.window w).ForcedDrain (t.window w) k (t.Referenced w))
    ∧ ∀ n, s.ForcedDrainContext t k n

/-! ## Resolution of an address phase -/

/-- Checks 1 and 2: a disabled master is answered DENIED whatever its cycle, and an enabled one UNMAPPED where no window
covers the unit (R24, R26). -/
def Obligations.AnsweredWithoutWindow : Prop :=
  ∀ (s : State) (a : BusAddress) (m : MasterId) (kind : CycleKind) (width : Width), s.BusReady →
    ((s.master m).enabled = false →
      ∃ t, exec (.addressPhase a m kind width) s = .next t ∧ s.AnswersTo t .denied none)
    ∧ ((s.master m).enabled = true → ¬ (isSplit kind = true ∧ spaceOf a = .io) →
      (∀ w, (s.window w).covers (spaceOf a) (unitOf a) = false) →
      ∃ t, exec (.addressPhase a m kind width) s = .next t ∧ s.AnswersTo t .unmapped none)

/-- Check 1a: a SPLIT READ in IO space from an enabled master is answered DENIED and changes no entry, whatever the
windows and the ORT hold (R25). -/
def Obligations.SplitReadInIoDenied : Prop :=
  ∀ (s : State) (p : BitVec 16) (m : MasterId) (tag : Tag) (width : Width), s.BusReady →
    (s.master m).enabled = true →
    ∃ t, exec (.addressPhase (.io p) m (.splitRead tag) width) s = .next t ∧ s.AnswersTo t .denied none

/-- The window the table reports for a unit is the covering window at the highest layer, and there is none exactly
where no window covers the unit (R16). -/
def Obligations.TopWindowIsHighest : Prop :=
  ∀ (s : State) (space : Space) (unit : Nat), s.OverlapLaw →
    (∀ w, s.topWindow space unit = some w ↔ s.IsTop space unit w)
    ∧ (s.topWindow space unit = none ↔ ∀ w, (s.window w).covers space unit = false)

/-- Checks 3 and 4: a top window that is SUSPENDED, HELD or DRAINING answers SILENT, RETRY or WITHDRAWN to every
enabled master and kind of cycle, and an ACTIVE one DENIED to a master without the right; nothing else changes
(R27, R28). -/
def Obligations.AnsweredByTopWindow : Prop :=
  ∀ (s : State) (a : BusAddress) (m : MasterId) (kind : CycleKind) (width : Width) (w : WindowId), s.BusReady →
    (s.master m).enabled = true → ¬ (isSplit kind = true ∧ spaceOf a = .io) → s.IsTop (spaceOf a) (unitOf a) w →
    ((s.window w).state = .suspended →
      ∃ t, exec (.addressPhase a m kind width) s = .next t ∧ s.AnswersTo t .silent none)
    ∧ ((s.window w).state = .held →
      ∃ t, exec (.addressPhase a m kind width) s = .next t ∧ s.AnswersTo t .retry none)
    ∧ ((s.window w).state = .draining →
      ∃ t, exec (.addressPhase a m kind width) s = .next t ∧ s.AnswersTo t .withdrawn none)
    ∧ ((s.window w).state = .active → ¬ (s.window w).allows m kind →
      ∃ t, exec (.addressPhase a m kind width) s = .next t ∧ s.AnswersTo t .denied none)

/-- Check 5 at an odd port: a READ or a WRITE of any width is answered DENIED, no port word is read or written (R29,
R165). -/
def Obligations.OddPortDenied : Prop :=
  ∀ (s : State) (p : BitVec 16) (m : MasterId) (width : Width), s.PortReady m → 0xFFF0 ≤ p.toNat →
    p.getLsbD 0 = true →
    (∃ t, exec (.addressPhase (.io p) m .read width) s = .next t ∧ s.AnswersTo t .denied none)
    ∧ ∀ data, ∃ t, exec (.addressPhase (.io p) m (.write data) width) s = .next t ∧ s.AnswersTo t .denied none

/-- Check 5, a READ at an even port, of any width: OK with the whole port word, taken from the reading master's own
context or from the shared blocks, and reading changes nothing but the lines (R29, R30, R120, R162, R165). -/
def Obligations.PortReadServed : Prop :=
  ∀ (s : State) (m : MasterId) (width : Width), s.PortReady m →
    (∃ t word, exec (.addressPhase (.io 0xFFF0) m .read width) s = .next t ∧ s.AnswersTo t .ok (some word)
      ∧ ∀ state result, ((s.context m).state, state) ∈ contextStateCodes →
        ((s.context m).result, result) ∈ resultCodes →
        word.toNat = state + (if (s.context m).overrun then 128 else 0) + 256 * result)
    ∧ (∀ n : Fin 5, ∃ t word, exec (.addressPhase (.io (BitVec.ofNat 16 (0xFFF2 + 2 * n.val))) m .read width) s = .next t
      ∧ s.AnswersTo t .ok (some word)
      ∧ ((s.context m).state = .complete → word = [(s.context m).results.w0, (s.context m).results.w1,
          (s.context m).results.w2, (s.context m).results.w3, (s.context m).results.w4][n])
      ∧ ((s.context m).state ≠ .complete → word = 0))
    ∧ (∃ t word, exec (.addressPhase (.io 0xFFFC) m .read width) s = .next t ∧ s.AnswersTo t .ok (some word)
      ∧ word.toNat = (if s.attention.suspended.raised then 1 else 0) + (if s.attention.slotLost.raised then 2 else 0)
          + (if s.attention.orphanReply.raised then 4 else 0)
          + 256 * (match s.selection with
            | none => 1
            | some n => n.val + 2))
    ∧ (s.QueueLaw → s.OrtLaw →
      ∃ t word, exec (.addressPhase (.io 0xFFFE) m .read width) s = .next t ∧ s.AnswersTo t .ok (some word)
      ∧ word.toNat = (List.finRange 64).countP (fun w => w != 0 && (s.window w).state == .free)
          + 64 * s.ort.length + 4096 * s.queue.length)

/-- Check 6 refuses a SPLIT READ that has reached an ACTIVE MEM window: CONFLICT when the pair is in the ORT in any
state, RETRY when the ORT is full and the pair is new (R32). -/
def Obligations.SplitReadRefused : Prop :=
  ∀ (s : State) (a : BitVec 24) (m : MasterId) (tag : Tag) (width : Width) (w : WindowId), s.BusReady →
    (s.master m).enabled = true → s.IsTop .mem (a.toNat / 4096) w → w ≠ 0 → (s.window w).state = .active →
    (s.window w).allows m (.splitRead tag) →
    ((∃ e ∈ s.ort, e.master = m ∧ e.tag = tag) →
      ∃ t, exec (.addressPhase (.mem a) m (.splitRead tag) width) s = .next t ∧ s.AnswersTo t .conflict none)
    ∧ ((∀ e ∈ s.ort, ¬ (e.master = m ∧ e.tag = tag)) → s.ort.length = 32 →
      ∃ t, exec (.addressPhase (.mem a) m (.splitRead tag) width) s = .next t ∧ s.AnswersTo t .retry none)

/-- Check 7: a READ or a WRITE with the right at an ACTIVE window other than entry 0 is selected, and so is a SPLIT READ
that check 6 lets through, whose RESERVED entry then ends the ORT; nothing else changes (R32 to R38, R42). -/
def Obligations.CycleSelected : Prop :=
  ∀ (s : State) (a : BusAddress) (m : MasterId) (width : Width) (w : WindowId), s.BusReady →
    (s.master m).enabled = true → s.IsTop (spaceOf a) (unitOf a) w → w ≠ 0 → (s.window w).state = .active →
    ((s.window w).allows m .read →
      ∃ t, exec (.addressPhase a m .read width) s = .next t ∧ s.SelectsFor t m .read w (unitOf a))
    ∧ (∀ data, (s.window w).allows m (.write data) →
      ∃ t, exec (.addressPhase a m (.write data) width) s = .next t ∧ s.SelectsFor t m .write w (unitOf a))
    ∧ (∀ tag, spaceOf a = .mem → (s.window w).allows m (.splitRead tag) →
      (∀ e ∈ s.ort, ¬ (e.master = m ∧ e.tag = tag)) → s.ort.length < 32 →
      ∃ t, exec (.addressPhase a m (.splitRead tag) width) s = .next t
        ∧ State.SelectsFor { s with ort := s.ort ++ [⟨m, tag, w, (s.window w).slot, unitOf a, .reserved⟩] } t m
            (.splitRead tag) w (unitOf a))

/-! ## Writes to the directory port -/

/-- The five rows for port writes are WRITE address phases at their ports, and ABANDON is the write of 0x001F, or of
the byte 0x1F, to 0xFFF0 (R31, R107, R165; DEDUCED, log 8). -/
def Obligations.PortWriteRowsAreAddressPhases : Prop :=
  ∀ (s : State) (m : MasterId) (width : Width),
    (∀ code, exec (.go m code width) s = exec (.addressPhase (.io 0xFFF0) m (.write code) width) s)
    ∧ (∀ (n : Fin 5) data, exec (.stagingWrite m n data width) s
        = exec (.addressPhase (.io (BitVec.ofNat 16 (0xFFF2 + 2 * n.val))) m (.write data) width) s)
    ∧ (∀ data, exec (.attentionClear m data width) s
        = exec (.addressPhase (.io 0xFFFC) m (.write data) width) s)
    ∧ (∀ data, exec (.occupancyWrite m data width) s
        = exec (.addressPhase (.io 0xFFFE) m (.write data) width) s)
    ∧ exec (.abandon m width) s = exec (.addressPhase (.io 0xFFF0) m (.write 0x001F) .word) s
    ∧ ∀ data, data.toNat % 256 = 0x1F →
        exec (.abandon m width) s = exec (.addressPhase (.io 0xFFF0) m (.write data) .byte) s

/-- A GO into an EMPTY or COMPLETE context is accepted: code and staging words are captured, the result is NONE with
words of zero, overrun is clear, the context QUEUED and the master at the tail of the queue; the cycle is acknowledged
OK (R106). -/
def Obligations.GoAccepted : Prop :=
  ∀ (s : State) (m : MasterId) (code : Word), s.PortReady m →
    (s.context m).state = .empty ∨ (s.context m).state = .complete → code ≠ 0x001F →
    ∃ t, exec (.go m code .word) s = .next t
    ∧ State.AnswersTo
        { s with
          contexts := s.contexts.set m
            ⟨.queued, (s.context m).staging, some ⟨code, (s.context m).staging⟩, .none, ⟨0, 0, 0, 0, 0⟩, false, none⟩
          queue := s.queue ++ [m] } t .ok none

/-- A byte GO hands over its low byte alone (R165); a GO that finds its context QUEUED or WAITING sets the overrun flag
and changes nothing else, and is acknowledged OK (R107). -/
def Obligations.GoByteAndOverrun : Prop :=
  ∀ (s : State) (m : MasterId) (code : Word), s.PortReady m →
    exec (.go m code .byte) s = exec (.go m (BitVec.ofNat 16 (code.toNat % 256)) .word) s
    ∧ ((s.context m).state = .queued ∨ (s.context m).state = .waiting → code ≠ 0x001F →
      ∃ t, exec (.go m code .word) s = .next t
      ∧ State.AnswersTo { s with contexts := s.contexts.set m { s.context m with overrun := true } } t .ok none)

/-- A staging write replaces that staging word of the writing master's context, in every state of it, and nothing else;
a byte write puts zero in the upper byte (R104, R165). -/
def Obligations.StagingWrite : Prop :=
  ∀ (s : State) (m : MasterId) (data : Word) (width : Width) (c : Words), s.PortReady m →
    (s.context m).staging = c → ∀ v : Word, (width = .word → v = data) →
    (width = .byte → v.toNat = data.toNat % 256) → ∀ n : Fin 5,
    ∃ t, exec (.stagingWrite m n data width) s = .next t
    ∧ State.AnswersTo
        { s with
          contexts := s.contexts.set m
            { s.context m with
              staging := [Words.mk v c.w1 c.w2 c.w3 c.w4, ⟨c.w0, v, c.w2, c.w3, c.w4⟩, ⟨c.w0, c.w1, v, c.w3, c.w4⟩,
                ⟨c.w0, c.w1, c.w2, v, c.w4⟩, ⟨c.w0, c.w1, c.w2, c.w3, v⟩][n] } } t .ok none

/-- A write to ATTENTION by a supervisor clears exactly the reasons whose bits are set, by any other master nothing; a
write to OCCUPANCY changes nothing; both are acknowledged OK (R31, R156). -/
def Obligations.AttentionAndOccupancyWrite : Prop :=
  ∀ (s : State) (m : MasterId) (data : Word) (width : Width), s.PortReady m →
    ((s.master m).supervisor = true →
      ∃ t, exec (.attentionClear m data width) s = .next t
      ∧ State.AnswersTo
          { s with
            attention :=
              ⟨if data.getLsbD 0 then ⟨false, none, 0⟩ else s.attention.suspended,
                if data.getLsbD 1 then ⟨false, none, 0⟩ else s.attention.slotLost,
                if data.getLsbD 2 then ⟨false, none, 0⟩ else s.attention.orphanReply⟩ } t .ok none)
    ∧ ((s.master m).supervisor = false →
      ∃ t, exec (.attentionClear m data width) s = .next t ∧ s.AnswersTo t .ok none)
    ∧ ∃ t, exec (.occupancyWrite m data width) s = .next t ∧ s.AnswersTo t .ok none

/-- ABANDON in QUEUED: the master leaves the queue from whatever place it holds, the others keep their order, and the
context completes ABANDONED with words of zero, overrun as it was; no other table is touched, and the queue is shorter
by one (R116). -/
def Obligations.AbandonQueued : Prop :=
  ∀ (s : State) (m : MasterId) (width : Width) (front back : List MasterId), s.PortReady m → s.QueueLaw →
    (s.context m).state = .queued → s.queue = front ++ m :: back →
    ∃ t, exec (.abandon m width) s = .next t
    ∧ State.AnswersTo
        { s with
          contexts := s.contexts.set m ((s.context m).endsWith .abandoned ⟨0, 0, 0, 0, 0⟩)
          queue := front ++ back } t .ok none
    ∧ t.queue.length + 1 = s.queue.length

/-- ABANDON in a wait on a MOVE or a RESIZE: the window returns to ACTIVE without its pending change and its waiting
context, every other field kept, and the context completes ABANDONED with the window's id (R117). -/
def Obligations.AbandonWaitingChange : Prop :=
  ∀ (s : State) (m : MasterId) (width : Width) (w : WindowId) (cmd : Captured), s.PortReady m →
    (s.context m).state = .waiting → (s.context m).waitingWindow = some w → (s.context m).captured = some cmd →
    cmd.code = 0x02 ∨ cmd.code = 0x03 →
    ∃ t, exec (.abandon m width) s = .next t
    ∧ State.AnswersTo
        { s with
          windows := s.windows.set w { s.window w with state := .active, change := none, waiting := none }
          contexts := s.contexts.set m ((s.context m).endsWith .abandoned (numberWords w.val)) } t .ok none

/-- ABANDON in EMPTY, in COMPLETE or in a wait on a RETIRE sets the overrun flag and does nothing else (R118). -/
def Obligations.AbandonWithoutEffect : Prop :=
  ∀ (s : State) (m : MasterId) (width : Width), s.PortReady m →
    ((s.context m).state = .empty ∨ (s.context m).state = .complete
      ∨ ((s.context m).state = .waiting ∧ ∃ cmd, (s.context m).captured = some cmd ∧ cmd.code = 0x07)) →
    ∃ t, exec (.abandon m width) s = .next t
    ∧ State.AnswersTo { s with contexts := s.contexts.set m { s.context m with overrun := true } } t .ok none

/-! ## The end of a selected cycle -/

/-- The three ends of a selected cycle that its slave or its timer brings, at the Monitor and the Read Tracker: the
record goes, the master sees the slave's status or SILENT on AST, every line is released, the reserved entry is removed,
or becomes WAITING with the slot's reply limit on ACCEPT; no other block is touched but the cycle's window, its waiting
context and the SUSPENDED record (R43, R44, R45, R62, R63). -/
def Obligations.CycleEnds : Prop :=
  ∀ (s : State) (c : CurrentCycle), s.pins.init = false → s.current = some c → s.OrtLaw → s.FaultQueueLaw →
    s.ReservedLaw →
    ∀ (i : Instr) (ast : AstLines),
      ((i = .properAcknowledge .ok ∧ ast = .bySlave .ok)
        ∨ (i = .properAcknowledge .accept ∧ (∃ tag, c.kind = .splitRead tag) ∧ ast = .bySlave .accept)
        ∨ (i = .improperAcknowledge .accept ∧ (∀ tag, c.kind ≠ .splitRead tag) ∧ ast = .bySlave .accept)
        ∨ (∃ status, status ≠ .ok ∧ status ≠ .accept ∧ i = .improperAcknowledge status ∧ ast = .bySlave status)
        ∨ (i = .acknowledgeTimerExpiry ∧ ast = .byPart .silent)) →
    ∃ t, exec i s = .next t
    ∧ t.current = none ∧ t.shown = { s.lines with ast := ast } ∧ t.LinesReleased
    ∧ (∀ tag, c.kind = .splitRead tag → i = .properAcknowledge .accept →
        t.ort = s.ort.map fun e =>
          if e.master = c.master ∧ e.tag = tag then
            { e with state := .waiting (64 * (s.slot c.slot).replyLimit) }
          else e)
    ∧ (∀ tag, c.kind = .splitRead tag → i ≠ .properAcknowledge .accept →
        t.ort = s.ort.filter fun e => !(e.master == c.master && e.tag == tag))
    ∧ ((∀ tag, c.kind ≠ .splitRead tag) → t.ort = s.ort)
    ∧ t.faultQueue = s.faultQueue ∧ t.mastership = s.mastership ∧ t.slots = s.slots ∧ t.masters = s.masters
    ∧ t.strikeLimit = s.strikeLimit ∧ t.selection = s.selection ∧ t.queue = s.queue ∧ t.pins = s.pins
    ∧ t.pending = s.pending
    ∧ (∀ v, v ≠ c.window → t.window v = s.window v)
    ∧ (∀ n, (s.window c.window).waiting ≠ some n → t.context n = s.context n)
    ∧ t.attention.slotLost = s.attention.slotLost ∧ t.attention.orphanReply = s.attention.orphanReply

/-- The strikes at the end of a selected cycle: a proper acknowledge clears an ACTIVE window's, an improper one or the
timer's expiry strikes it, only the strike that reaches the limit suspends it and raises SUSPENDED, and against a
window that is not ACTIVE no reason is raised (R43, R44, R45, R48, R49, R52). -/
def Obligations.CycleEndStrikes : Prop :=
  ∀ (s : State) (c : CurrentCycle), s.pins.init = false → s.current = some c →
    ((∃ t, exec (.properAcknowledge .ok) s = .next t ∧ s.StrikesCleared t c.window ∧ t.attention = s.attention)
    ∧ (∀ tag, c.kind = .splitRead tag →
        ∃ t, exec (.properAcknowledge .accept) s = .next t ∧ s.StrikesCleared t c.window
          ∧ t.attention = s.attention))
    ∧ ((∀ status, status ≠ .ok → status ≠ .accept →
        ∃ t, exec (.improperAcknowledge status) s = .next t ∧ s.Struck t c.window)
    ∧ ((∀ tag, c.kind ≠ .splitRead tag) →
        ∃ t, exec (.improperAcknowledge .accept) s = .next t ∧ s.Struck t c.window)
    ∧ ∃ t, exec .acknowledgeTimerExpiry s = .next t ∧ s.Struck t c.window)

/-- The drain check at each loss of a reference: at the end of a cycle, at a passed reply and at the end of a fault
reply, a HELD or DRAINING window keeps waiting while something still names it, and otherwise a HELD one takes its
pending change and a DRAINING one becomes FREE, the waiting context completing DONE in the same event. The ACCEPT of a
SPLIT READ takes no last reference, since its entry stays, so window and contexts stay as they are
(R12, R43, R133, R145, R147). -/
def Obligations.DrainCheckAtLostReference : Prop :=
  ∀ s : State, s.DeviceLaws → s.pins.init = false → ∀ (i : Instr) (w : WindowId),
    (s.window w).state = .held ∨ (s.window w).state = .draining →
    ((∃ c, s.current = some c ∧ c.window = w
        ∧ ((∃ status, i = .properAcknowledge status ∨ i = .improperAcknowledge status)
          ∨ i = .acknowledgeTimerExpiry))
      ∨ (s.current = none ∧ s.mastership ≠ .holding ∧ ∃ e ∈ s.ort, e.window = w
        ∧ ((∃ d, e.state = .waiting d) ∨ e.state = .expired .silent)
        ∧ ∃ data status, i = .replyCycle e.master e.tag e.slot data status)
      ∨ (s.mastership = .holding ∧ i = .faultReplyEnd
        ∧ ∃ e ∈ s.ort, e.window = w ∧ s.faultQueue.head? = some (e.master, e.tag))) →
    ∃ t, exec i s = .next t ∧ s.Drained t w
    ∧ ∀ c tag, s.current = some c → c.kind = .splitRead tag → i = .properAcknowledge .accept →
      t.Referenced w ∧ t.window w = s.window w ∧ t.contexts = s.contexts

/-- An acknowledge that belongs to no cycle is ignored, whatever cycle is current by then; any acknowledge, and an expiry
of the timer, is ignored while no cycle is current (R46), and so is a deadline's expiry without a WAITING entry, which
its reply or its slot's loss has met first (R72). Of the two expiries this is DEDUCED (log 10). -/
def Obligations.UnmatchedEventsIgnored : Prop :=
  ∀ s : State, s.pins.init = false →
    (∀ status, exec (.strayAcknowledge status) s = .next s)
    ∧ (s.current = none →
      (∀ status, exec (.properAcknowledge status) s = .next s ∧ exec (.improperAcknowledge status) s = .next s)
      ∧ exec .acknowledgeTimerExpiry s = .next s)
    ∧ ∀ m tag, (∀ e ∈ s.ort, e.master = m → e.tag = tag → ∀ d, e.state ≠ .waiting d) →
      exec (.deadlineExpiry m tag) s = .next s

/-! ## Split reads -/

/-- A deadline expires: the entry becomes EXPIRED with SILENT in its place, joins the tail of the fault-reply queue, a
strike is handed to its window and the request is made sure of; no drain check is made and nothing else changes
(R64, R77). -/
def Obligations.DeadlineExpires : Prop :=
  ∀ (s : State) (e : OrtEntry) (d : Nat), s.pins.init = false → s.OrtLaw → e ∈ s.ort → e.state = .waiting d →
    ∃ t, exec (.deadlineExpiry e.master e.tag) s = .next t
    ∧ t = { s with
        windows := t.windows, ort := t.ort, faultQueue := s.faultQueue ++ [(e.master, e.tag)],
        mastership := t.mastership, attention := t.attention }
    ∧ t.ort = s.ort.map (fun x =>
        if x.master = e.master ∧ x.tag = e.tag then { x with state := .expired .silent } else x)
    ∧ (s.mastership = .idle → t.mastership = .requesting) ∧ (s.mastership ≠ .idle → t.mastership = s.mastership)
    ∧ s.Struck t e.window
    ∧ ((s.window e.window).state = .held ∨ (s.window e.window).state = .draining →
        t.window e.window = s.window e.window ∧ t.attention = s.attention)
    ∧ ∀ v, v ≠ e.window → t.window v = s.window v

/-- A reply from the entry's slot passes: to a WAITING entry with a strike clear, to an EXPIRED SILENT entry without
one and with its place in the fault-reply queue taken back; the entry is removed, and the request released when the
queue has become empty while REQUESTING (R66, R67, R71, R77). -/
def Obligations.ReplyPasses : Prop :=
  ∀ (s : State) (e : OrtEntry) (data : Word) (status : Status), s.BusReady → s.OrtLaw → s.FaultQueueLaw →
    e ∈ s.ort → (∃ d, e.state = .waiting d) ∨ e.state = .expired .silent →
    ∃ t, exec (.replyCycle e.master e.tag e.slot data status) s = .next t
    ∧ t = { s with
        windows := t.windows, contexts := t.contexts, lines := t.lines, shown := t.shown,
        ort := s.ort.filter (fun x => !(x.master == e.master && x.tag == e.tag)),
        faultQueue := t.faultQueue, mastership := t.mastership }
    ∧ t.shown.OnlyDrives (.bySlave status) false ∧ t.LinesReleased
    ∧ ((∃ d, e.state = .waiting d) → t.faultQueue = s.faultQueue ∧ t.mastership = s.mastership
      ∧ s.StrikesCleared t e.window)
    ∧ (e.state = .expired .silent → t.faultQueue = s.faultQueue.filter (fun k => k != (e.master, e.tag))
      ∧ (s.mastership = .requesting → t.faultQueue = [] → t.mastership = .idle)
      ∧ (s.mastership ≠ .requesting ∨ t.faultQueue ≠ [] → t.mastership = s.mastership)
      ∧ ((s.window e.window).state = .active ∨ (s.window e.window).state = .suspended →
        t.window e.window = s.window e.window))
    ∧ (∀ v, v ≠ e.window → t.window v = s.window v)
    ∧ ∀ n, (s.window e.window).waiting ≠ some n → t.context n = s.context n

/-- A reply is voided when the ORT has no entry of its master and tag, when the entry names another slot, and when the
entry is EXPIRED with WITHDRAWN: VOID is asserted through the cycle and released at its end, ORPHAN-REPLY raised with
the source slot, and nothing else changes (R68, R69, R70). -/
def Obligations.ReplyVoided : Prop :=
  ∀ (s : State) (m : MasterId) (tag : Tag) (source : SlotId) (data : Word) (status : Status), s.BusReady →
    (∀ e ∈ s.ort, e.master = m → e.tag = tag →
      e.state ≠ .reserved ∧ (e.slot ≠ source ∨ e.state = .expired .withdrawn)) →
    ∃ t, exec (.replyCycle m tag source data status) s = .next t
    ∧ t = { s with lines := t.lines, shown := t.shown, attention := t.attention }
    ∧ t.shown.OnlyDrives (.bySlave status) true ∧ t.LinesReleased
    ∧ s.attention.orphanReply.RaisedTo t.attention.orphanReply source.val
    ∧ t.attention.suspended = s.attention.suspended ∧ t.attention.slotLost = s.attention.slotLost

/-- A grant with fault replies waiting delivers the head's: HOLDING, with the entry's master and tag, its slot on the
source lines, data zero, its fault status on AST and VOID released; at the end of the cycle the entry leaves queue and
ORT, and the tenure ends, REQUESTING again while entries remain (R77, R78). -/
def Obligations.FaultReplyTenure : Prop :=
  ∀ (s : State) (e : OrtEntry) (f : FaultStatus) (rest : List (MasterId × Tag)), s.pins.init = false →
    s.current = none → s.OrtLaw → s.FaultQueueLaw → e ∈ s.ort → e.state = .expired f →
    s.faultQueue = (e.master, e.tag) :: rest →
    (∀ l : Lines,
      l = ⟨none, Vector.replicate 16 false, none, .byPart f.status, some 0, some e.slot, some (e.master, e.tag), false⟩ →
      exec .mastershipGrant s = .next { s with mastership := .holding, lines := l, shown := l })
    ∧ (s.mastership = .holding → ∃ t, exec .faultReplyEnd s = .next t
      ∧ t = { s with
          windows := t.windows, contexts := t.contexts, lines := t.lines, shown := s.lines,
          ort := s.ort.filter (fun x => !(x.master == e.master && x.tag == e.tag)),
          faultQueue := rest, mastership := if rest = [] then .idle else .requesting }
      ∧ t.LinesReleased
      ∧ ((s.window e.window).state = .active ∨ (s.window e.window).state = .suspended →
        t.window e.window = s.window e.window)
      ∧ (∀ v, v ≠ e.window → t.window v = s.window v)
      ∧ ∀ n, (s.window e.window).waiting ≠ some n → t.context n = s.context n)

/-- A grant with the fault-reply queue empty, in whatever mastership state it is taken, drives no cycle, releases the
bus at once and leaves IDLE; no entry, window or reason changes (R79). -/
def Obligations.EmptyTenure : Prop :=
  ∀ s : State, s.pins.init = false → s.current = none → s.faultQueue = [] →
    ∃ t, exec .mastershipGrant s = .next t
    ∧ t = { s with mastership := .idle, lines := t.lines, shown := t.lines } ∧ t.LinesReleased

/-! ## The engine -/

/-- A captured code that names no command completes BAD-COMMAND with the code in result word 0, and no table changes
(R111). -/
def Obligations.BadCommand : Prop :=
  ∀ (s : State) (m : MasterId) (rest : List MasterId) (cmd : Captured), s.Takes m rest cmd →
    cmd.code ≠ 0x01 → (∀ p ∈ windowRows ++ registryRows, cmd.code ≠ p.2) → cmd.code ≠ 0x18 → cmd.code ≠ 0x19 →
    exec .badCommand s = .next (s.takeEnds m rest .badCommand ⟨cmd.code, 0, 0, 0, 0⟩)

/-- The checks common to the seven window commands, in order: NO-WINDOW for an id above 63 or a FREE entry, PROTECTED
for entry 0, NO-AUTHORITY for an issuer that is neither sponsor nor supervisor; each refusal changes no table
(R111, R112, R113). -/
def Obligations.WindowCommandChecks : Prop :=
  ∀ (s : State) (m : MasterId) (rest : List MasterId) (cmd : Captured), s.Takes m rest cmd →
    ∀ p ∈ windowRows, cmd.code = p.2 →
    (64 ≤ cmd.words.w0.toNat → exec p.1 s = .next (s.takeEnds m rest .noWindow ⟨0, 0, 0, 0, 0⟩))
    ∧ ∀ w : WindowId, cmd.words.w0.toNat = w.val →
      ((s.window w).state = .free → exec p.1 s = .next (s.takeEnds m rest .noWindow ⟨0, 0, 0, 0, 0⟩))
      ∧ ((s.window w).state ≠ .free → w = 0 →
        exec p.1 s = .next (s.takeEnds m rest .protectedEntry ⟨0, 0, 0, 0, 0⟩))
      ∧ ((s.window w).state ≠ .free → w ≠ 0 → (s.window w).sponsor ≠ m → (s.master m).supervisor = false →
        exec p.1 s = .next (s.takeEnds m rest .noAuthority ⟨0, 0, 0, 0, 0⟩))

/-- The state check of the window commands: HELD and DRAINING are WINDOW-BUSY to RESIZE, MOVE, RESTACK and RETIRE,
DRAINING is to GRANT and HANDOVER; SUSPENDED is BAD-STATE to RESIZE and MOVE, and any other state than it to REINSTATE
(R12, R13, R14, R54, R126, R129, R137, R138, R139, R142). -/
def Obligations.WindowCommandStates : Prop :=
  ∀ (s : State) (m : MasterId) (rest : List MasterId) (cmd : Captured) (w : WindowId), s.Takes m rest cmd →
    s.MayCommand m cmd w →
    (∀ p ∈ [(Instr.resize, (0x02 : Word)), (.move, 0x03), (.restack, 0x04), (.retire, 0x07)], cmd.code = p.2 →
      (s.window w).state = .held ∨ (s.window w).state = .draining →
      exec p.1 s = .next (s.takeEnds m rest .windowBusy ⟨0, 0, 0, 0, 0⟩))
    ∧ (∀ p ∈ [(Instr.grant, (0x05 : Word)), (.handover, 0x06)], cmd.code = p.2 → (s.window w).state = .draining →
      exec p.1 s = .next (s.takeEnds m rest .windowBusy ⟨0, 0, 0, 0, 0⟩))
    ∧ (∀ p ∈ [(Instr.resize, (0x02 : Word)), (.move, 0x03)], cmd.code = p.2 → (s.window w).state = .suspended →
      exec p.1 s = .next (s.takeEnds m rest .badState ⟨0, 0, 0, 0, 0⟩))
    ∧ (cmd.code = 0x08 → (s.window w).state ≠ .suspended →
      exec .reinstate s = .next (s.takeEnds m rest .badState ⟨0, 0, 0, 0, 0⟩))

/-! ## Shaping commands -/

/-- A CLAIM and its checks in order: operands, range, slot, overlap, room; passed, the lowest FREE entry among 1 to 63
becomes the ACTIVE window of the operands, sponsored by the issuer, and nothing else changes
(R18, R122, R123, R124, R166). -/
def Obligations.ClaimOutcome : Prop :=
  ∀ (s : State) (m : MasterId) (rest : List MasterId) (cmd : Captured), s.Takes m rest cmd → cmd.code = 0x01 →
    s.RangeLaw →
    ∀ spaceCode layer slot, spaceCode = cmd.words.w0.toNat % 4 → layer = cmd.words.w0.toNat / 16 % 16 →
      slot = cmd.words.w0.toNat / 256 % 32 →
    ∀ target, target = (if cmd.words.w0.getLsbD 15 then some cmd.words.w4.toNat else none) →
    (spaceCode = 0 ∨ spaceCode = 3 ∨ 4 ≤ layer ∨ 16 ≤ slot →
      exec .claim s = .next (s.takeEnds m rest .badOperand ⟨0, 0, 0, 0, 0⟩))
    ∧ ∀ (sp : Space) (l : Fin 4) (k : SlotId), (sp = .mem → spaceCode = 1) → (sp = .io → spaceCode = 2) →
      l.val = layer → k.val = slot →
      (¬ InBounds cmd.words.w1.toNat cmd.words.w2.toNat target →
        exec .claim s = .next (s.takeEnds m rest .badRange ⟨0, 0, 0, 0, 0⟩))
      ∧ (InBounds cmd.words.w1.toNat cmd.words.w2.toNat target →
        ((s.slot k).state ≠ .online → exec .claim s = .next (s.takeEnds m rest .badSlot ⟨0, 0, 0, 0, 0⟩))
        ∧ ((s.slot k).state = .online →
          (s.Collides none sp l cmd.words.w1.toNat cmd.words.w2.toNat →
            exec .claim s = .next (s.takeEnds m rest .overlap ⟨0, 0, 0, 0, 0⟩))
          ∧ (¬ s.Collides none sp l cmd.words.w1.toNat cmd.words.w2.toNat →
            ((∀ w, w ≠ 0 → (s.window w).state ≠ .free) →
              exec .claim s = .next (s.takeEnds m rest .tableFull ⟨0, 0, 0, 0, 0⟩))
            ∧ ∀ w, w ≠ 0 → (s.window w).state = .free → (∀ v, v ≠ 0 → v < w → (s.window v).state ≠ .free) →
              exec .claim s = .next
                ((s.setWindow w
                  ⟨.active, sp, cmd.words.w1.toNat, cmd.words.w2.toNat, l, k,
                    BitVec.ofNat 8 (cmd.words.w3.toNat % 256), BitVec.ofNat 8 (cmd.words.w3.toNat / 256), target, m, 0,
                    none, none⟩).takeEnds m rest .done (numberWords w.val)))))

/-- A RESIZE of an ACTIVE window: BAD-RANGE, OVERLAP when growing; the same or a greater length, and a smaller one
without references, are applied at once; a smaller one with references leaves the window HELD and the context WAITING.
Only the length changes (R126, R127, R128). -/
def Obligations.ResizeOutcome : Prop :=
  ∀ (s : State) (m : MasterId) (rest : List MasterId) (cmd : Captured) (w : WindowId), s.Takes m rest cmd →
    cmd.code = 0x02 → s.MayCommand m cmd w → (s.window w).state = .active → s.RangeLaw →
    ∀ length, length = cmd.words.w1.toNat →
    (¬ InBounds (s.window w).base length (s.window w).target →
      exec .resize s = .next (s.takeEnds m rest .badRange ⟨0, 0, 0, 0, 0⟩))
    ∧ (InBounds (s.window w).base length (s.window w).target →
      ((s.window w).length < length →
        s.Collides (some w) (s.window w).space (s.window w).layer (s.window w).base length →
        exec .resize s = .next (s.takeEnds m rest .overlap ⟨0, 0, 0, 0, 0⟩))
      ∧ (((s.window w).length < length ∧
            ¬ s.Collides (some w) (s.window w).space (s.window w).layer (s.window w).base length)
          ∨ (s.window w).length = length ∨ (length < (s.window w).length ∧ ¬ s.Referenced w) →
        exec .resize s = .next
          ((s.setWindow w { s.window w with length := length }).takeEnds m rest .done
            (doneShape w { s.window w with length := length })))
      ∧ (length < (s.window w).length → s.Referenced w →
        exec .resize s = .next
          (s.takeWaits m rest w
            { s.window w with
              state := .held
              change := some ⟨(s.window w).base, length, (s.window w).slot, (s.window w).target⟩ })))

/-- A MOVE of an ACTIVE window: BAD-OPERAND, BAD-RANGE, BAD-SLOT, OVERLAP in order; passed without references, base,
slot and target take the new values and strikes become 0; with references the window is HELD with the change pending
and the context WAITING (R129, R130, R131). -/
def Obligations.MoveOutcome : Prop :=
  ∀ (s : State) (m : MasterId) (rest : List MasterId) (cmd : Captured) (w : WindowId), s.Takes m rest cmd →
    cmd.code = 0x03 → s.MayCommand m cmd w → (s.window w).state = .active → s.RangeLaw →
    ∀ base target, base = cmd.words.w1.toNat →
      target = (if cmd.words.w2.getLsbD 15 then some cmd.words.w3.toNat else none) →
    (16 ≤ cmd.words.w2.toNat % 32 → exec .move s = .next (s.takeEnds m rest .badOperand ⟨0, 0, 0, 0, 0⟩))
    ∧ ∀ k : SlotId, k.val = cmd.words.w2.toNat % 32 →
      (¬ InBounds base (s.window w).length target →
        exec .move s = .next (s.takeEnds m rest .badRange ⟨0, 0, 0, 0, 0⟩))
      ∧ (InBounds base (s.window w).length target →
        ((s.slot k).state ≠ .online → exec .move s = .next (s.takeEnds m rest .badSlot ⟨0, 0, 0, 0, 0⟩))
        ∧ ((s.slot k).state = .online →
          (s.Collides (some w) (s.window w).space (s.window w).layer base (s.window w).length →
            exec .move s = .next (s.takeEnds m rest .overlap ⟨0, 0, 0, 0, 0⟩))
          ∧ (¬ s.Collides (some w) (s.window w).space (s.window w).layer base (s.window w).length →
            (¬ s.Referenced w →
              exec .move s = .next
                ((s.setWindow w { s.window w with base := base, slot := k, target := target, strikes := 0 }).takeEnds m
                  rest .done (doneShape w { s.window w with base := base, slot := k, target := target })))
            ∧ (s.Referenced w →
              exec .move s = .next
                (s.takeWaits m rest w
                  { s.window w with
                    state := .held, change := some ⟨base, (s.window w).length, k, target⟩ })))))

/-- A RESTACK of an ACTIVE or SUSPENDED window: BAD-OPERAND above layer 3, OVERLAP at the new layer, else the new layer
at once, whether or not the window has references; nothing else changes (R137). -/
def Obligations.RestackOutcome : Prop :=
  ∀ (s : State) (m : MasterId) (rest : List MasterId) (cmd : Captured) (w : WindowId), s.Takes m rest cmd →
    cmd.code = 0x04 → s.MayCommand m cmd w → (s.window w).state = .active ∨ (s.window w).state = .suspended →
    s.RangeLaw →
    (4 ≤ cmd.words.w1.toNat → exec .restack s = .next (s.takeEnds m rest .badOperand ⟨0, 0, 0, 0, 0⟩))
    ∧ ∀ l : Fin 4, l.val = cmd.words.w1.toNat →
      (s.Collides (some w) (s.window w).space l (s.window w).base (s.window w).length →
        exec .restack s = .next (s.takeEnds m rest .overlap ⟨0, 0, 0, 0, 0⟩))
      ∧ (¬ s.Collides (some w) (s.window w).space l (s.window w).base (s.window w).length →
        exec .restack s = .next
          ((s.setWindow w { s.window w with layer := l }).takeEnds m rest .done
            ⟨BitVec.ofNat 16 w.val, BitVec.ofNat 16 l.val, 0, 0, 0⟩))

/-- GRANT on an ACTIVE, HELD or SUSPENDED window replaces both sets at once; HANDOVER replaces the sponsor, or is
refused BAD-OPERAND above 7; no other field and no other table changes (R138, R139). -/
def Obligations.GrantAndHandoverOutcome : Prop :=
  ∀ (s : State) (m : MasterId) (rest : List MasterId) (cmd : Captured) (w : WindowId), s.Takes m rest cmd →
    s.MayCommand m cmd w → (s.window w).state ≠ .draining →
    (cmd.code = 0x05 → exec .grant s = .next
      ((s.setWindow w
        { s.window w with
          readSet := BitVec.ofNat 8 (cmd.words.w1.toNat % 256)
          writeSet := BitVec.ofNat 8 (cmd.words.w1.toNat / 256) }).takeEnds m rest .done
        ⟨BitVec.ofNat 16 w.val, cmd.words.w1, 0, 0, 0⟩))
    ∧ (cmd.code = 0x06 → 8 ≤ cmd.words.w1.toNat →
      exec .handover s = .next (s.takeEnds m rest .badOperand ⟨0, 0, 0, 0, 0⟩))
    ∧ (cmd.code = 0x06 → ∀ sponsor : MasterId, sponsor.val = cmd.words.w1.toNat →
      exec .handover s = .next
        ((s.setWindow w { s.window w with sponsor := sponsor }).takeEnds m rest .done
          ⟨BitVec.ofNat 16 w.val, BitVec.ofNat 16 sponsor.val, 0, 0, 0⟩))

/-- RETIRE of an ACTIVE or SUSPENDED window: without references it is FREE and its record cleared in the take, the
context DONE with the old base, length and slot; with references it is DRAINING and the context WAITING
(R143, R147). -/
def Obligations.RetireOutcome : Prop :=
  ∀ (s : State) (m : MasterId) (rest : List MasterId) (cmd : Captured) (w : WindowId), s.Takes m rest cmd →
    cmd.code = 0x07 → s.MayCommand m cmd w → (s.window w).state = .active ∨ (s.window w).state = .suspended →
    s.WaitLaw →
    (¬ s.Referenced w →
      exec .retire s = .next
        ((s.setWindow w ⟨.free, .mem, 0, 0, 0, 0, 0, 0, none, 0, 0, none, none⟩).takeEnds m rest .done
          (doneRetire w (s.window w))))
    ∧ (s.Referenced w →
      exec .retire s = .next (s.takeWaits m rest w { s.window w with state := .draining }))

/-- REINSTATE of a SUSPENDED window: ACTIVE with strikes 0, every other field kept; the SUSPENDED reason and the ORT
are not touched (R54). -/
def Obligations.ReinstateOutcome : Prop :=
  ∀ (s : State) (m : MasterId) (rest : List MasterId) (cmd : Captured) (w : WindowId), s.Takes m rest cmd →
    cmd.code = 0x08 → s.MayCommand m cmd w → (s.window w).state = .suspended →
    exec .reinstate s = .next
      ((s.setWindow w { s.window w with state := .active, strikes := 0 }).takeEnds m rest .done (numberWords w.val))

/-! ## Registry commands -/

/-- The five Registry commands from an issuer that is no supervisor are refused NO-AUTHORITY and change no table
(R112). -/
def Obligations.RegistryCommandAuthority : Prop :=
  ∀ (s : State) (m : MasterId) (rest : List MasterId) (cmd : Captured), s.Takes m rest cmd →
    (s.master m).supervisor = false → ∀ p ∈ registryRows, cmd.code = p.2 →
    exec p.1 s = .next (s.takeEnds m rest .noAuthority ⟨0, 0, 0, 0, 0⟩)

/-- SET SLOT: NO-AUTHORITY, BAD-OPERAND, else both limits together, in every slot state, with the slot and the limits
in the result words; running timers and deadlines keep their values (R93). -/
def Obligations.SetSlotOutcome : Prop :=
  ∀ (s : State) (m : MasterId) (rest : List MasterId) (cmd : Captured), s.Takes m rest cmd → cmd.code = 0x10 →
    ((s.master m).supervisor = false →
      exec .setSlot s = .next (s.takeEnds m rest .noAuthority ⟨0, 0, 0, 0, 0⟩))
    ∧ ((s.master m).supervisor = true →
      (16 ≤ cmd.words.w0.toNat ∨ cmd.words.w1.toNat = 0 ∨ 256 ≤ cmd.words.w1.toNat ∨ cmd.words.w2.toNat = 0
          ∨ 256 ≤ cmd.words.w2.toNat →
        exec .setSlot s = .next (s.takeEnds m rest .badOperand ⟨0, 0, 0, 0, 0⟩))
      ∧ ∀ k : SlotId, cmd.words.w0.toNat = k.val → 1 ≤ cmd.words.w1.toNat → cmd.words.w1.toNat ≤ 255 →
        1 ≤ cmd.words.w2.toNat → cmd.words.w2.toNat ≤ 255 →
        exec .setSlot s = .next
          ((s.setSlot k { s.slot k with ackLimit := cmd.words.w1.toNat, replyLimit := cmd.words.w2.toNat }).takeEnds m
            rest .done ⟨cmd.words.w0, cmd.words.w1, cmd.words.w2, 0, 0⟩))

/-- SLOT ONLINE: NO-AUTHORITY, BAD-OPERAND, BAD-SLOT for an ABSENT slot; DONE for an ONLINE one with no change, and for
an OFFLINE one, which becomes ONLINE (R94). -/
def Obligations.SlotOnlineOutcome : Prop :=
  ∀ (s : State) (m : MasterId) (rest : List MasterId) (cmd : Captured), s.Takes m rest cmd → cmd.code = 0x11 →
    ((s.master m).supervisor = false →
      exec .slotOnline s = .next (s.takeEnds m rest .noAuthority ⟨0, 0, 0, 0, 0⟩))
    ∧ ((s.master m).supervisor = true →
      (16 ≤ cmd.words.w0.toNat → exec .slotOnline s = .next (s.takeEnds m rest .badOperand ⟨0, 0, 0, 0, 0⟩))
      ∧ ∀ k : SlotId, cmd.words.w0.toNat = k.val →
        ((s.slot k).state = .absent → exec .slotOnline s = .next (s.takeEnds m rest .badSlot ⟨0, 0, 0, 0, 0⟩))
        ∧ ((s.slot k).state = .online → exec .slotOnline s = .next (s.takeEnds m rest .done ⟨cmd.words.w0, 2, 0, 0, 0⟩))
        ∧ ((s.slot k).state = .offline →
          exec .slotOnline s = .next
            ((s.setSlot k { s.slot k with state := .online }).takeEnds m rest .done ⟨cmd.words.w0, 2, 0, 0, 0⟩)))

/-- SLOT OFFLINE: NO-AUTHORITY, BAD-OPERAND, PROTECTED for slot 0, BAD-SLOT for an ABSENT slot; DONE with no change for
an OFFLINE one; an ONLINE one becomes OFFLINE and its windows are drained as Table 9-2 gives, the current cycle, the
ORT and the attention records left alone, with the count of windows drained in result word 2 (R95, R148). -/
def Obligations.SlotOfflineOutcome : Prop :=
  ∀ (s : State) (m : MasterId) (rest : List MasterId) (cmd : Captured), s.Takes m rest cmd → cmd.code = 0x12 →
    s.WaitLaw →
    ((s.master m).supervisor = false →
      exec .slotOffline s = .next (s.takeEnds m rest .noAuthority ⟨0, 0, 0, 0, 0⟩))
    ∧ ((s.master m).supervisor = true →
      (16 ≤ cmd.words.w0.toNat → exec .slotOffline s = .next (s.takeEnds m rest .badOperand ⟨0, 0, 0, 0, 0⟩))
      ∧ (cmd.words.w0.toNat = 0 → exec .slotOffline s = .next (s.takeEnds m rest .protectedEntry ⟨0, 0, 0, 0, 0⟩))
      ∧ ∀ k : SlotId, k ≠ 0 → cmd.words.w0.toNat = k.val →
        ((s.slot k).state = .absent → exec .slotOffline s = .next (s.takeEnds m rest .badSlot ⟨0, 0, 0, 0, 0⟩))
        ∧ ((s.slot k).state = .offline →
          exec .slotOffline s = .next (s.takeEnds m rest .done ⟨cmd.words.w0, 1, 0, 0, 0⟩))
        ∧ ((s.slot k).state = .online → ∃ t, exec .slotOffline s = .next t
          ∧ t = { s with
              windows := t.windows, contexts := t.contexts, queue := rest,
              slots := s.slots.set k { s.slot k with state := .offline } }
          ∧ (∀ w, (s.window w).ForcedDrain (t.window w) k (s.Referenced w))
          ∧ (∀ n, n ≠ m → s.ForcedDrainContext t k n)
          ∧ t.context m = (s.context m).endsWith .done
              ⟨cmd.words.w0, 1,
                BitVec.ofNat 16 ((List.finRange 64).countP fun w => (s.window w).slot == k
                  && ((s.window w).state == .active || (s.window w).state == .suspended
                    || (s.window w).state == .held)), 0, 0⟩))

/-- SET MASTER: NO-AUTHORITY, BAD-OPERAND, LAST-SUPERVISOR, else both fields at once; a master that it disables while
QUEUED leaves the queue and completes DISABLED, and no other context changes (R98, R99). -/
def Obligations.SetMasterOutcome : Prop :=
  ∀ (s : State) (m : MasterId) (rest : List MasterId) (cmd : Captured), s.Takes m rest cmd → cmd.code = 0x13 →
    ((s.master m).supervisor = false →
      exec .setMaster s = .next (s.takeEnds m rest .noAuthority ⟨0, 0, 0, 0, 0⟩))
    ∧ ((s.master m).supervisor = true →
      (8 ≤ cmd.words.w0.toNat → exec .setMaster s = .next (s.takeEnds m rest .badOperand ⟨0, 0, 0, 0, 0⟩))
      ∧ ∀ (k : MasterId) (r : MasterRecord), cmd.words.w0.toNat = k.val →
        r = ⟨cmd.words.w1.getLsbD 0, cmd.words.w1.getLsbD 1⟩ →
        ((¬ ∃ n, ((s.setMaster k r).master n).enabled = true ∧ ((s.setMaster k r).master n).supervisor = true) →
          exec .setMaster s = .next (s.takeEnds m rest .lastSupervisor ⟨0, 0, 0, 0, 0⟩))
        ∧ ((∃ n, ((s.setMaster k r).master n).enabled = true ∧ ((s.setMaster k r).master n).supervisor = true) →
          (r.enabled = true ∨ k = m ∨ (s.context k).state ≠ .queued →
            exec .setMaster s = .next ((s.setMaster k r).takeEnds m rest .done
              ⟨cmd.words.w0, BitVec.ofNat 16 (cmd.words.w1.toNat % 4), 0, 0, 0⟩))
          ∧ (r.enabled = false → k ≠ m → (s.context k).state = .queued →
            exec .setMaster s = .next
              (((s.setMaster k r).setContext k ((s.context k).endsWith .disabled ⟨0, 0, 0, 0, 0⟩)).takeEnds m
                (rest.filter fun n => n != k) .done
                ⟨cmd.words.w0, BitVec.ofNat 16 (cmd.words.w1.toNat % 4), 0, 0, 0⟩))))

/-- TUNE: NO-AUTHORITY, BAD-OPERAND, else the settings: a limit from 1 to 15 is written and every window's strikes are
set to 0, its state kept; a selection is written or left; the result words carry the settings now in force, and the
attention line in force is driven exactly while a reason is raised (R100, R101, R157). -/
def Obligations.TuneOutcome : Prop :=
  ∀ (s : State) (m : MasterId) (rest : List MasterId) (cmd : Captured), s.Takes m rest cmd → cmd.code = 0x14 →
    ((s.master m).supervisor = false → exec .tune s = .next (s.takeEnds m rest .noAuthority ⟨0, 0, 0, 0, 0⟩))
    ∧ ((s.master m).supervisor = true →
      (16 ≤ cmd.words.w0.toNat ∨ 10 ≤ cmd.words.w1.toNat →
        exec .tune s = .next (s.takeEnds m rest .badOperand ⟨0, 0, 0, 0, 0⟩))
      ∧ (cmd.words.w0.toNat ≤ 15 → cmd.words.w1.toNat ≤ 9 → ∃ t, exec .tune s = .next t
        ∧ t = { s with
            windows := t.windows, strikeLimit := t.strikeLimit, selection := t.selection, contexts := t.contexts,
            queue := rest }
        ∧ (cmd.words.w0.toNat = 0 → t.windows = s.windows ∧ t.strikeLimit = s.strikeLimit)
        ∧ (cmd.words.w0.toNat ≠ 0 → t.strikeLimit = cmd.words.w0.toNat
          ∧ ∀ w, t.window w = { s.window w with strikes := 0 })
        ∧ (cmd.words.w1.toNat = 0 → t.selection = s.selection)
        ∧ (cmd.words.w1.toNat = 1 → t.selection = none)
        ∧ (∀ n : Fin 8, cmd.words.w1.toNat = n.val + 2 → t.selection = some n)
        ∧ (∀ n, t.atnAsserted n = true ↔ t.selection = some n
            ∧ (s.attention.suspended.raised = true ∨ s.attention.slotLost.raised = true
              ∨ s.attention.orphanReply.raised = true))
        ∧ (∀ n, n ≠ m → t.context n = s.context n)
        ∧ t.context m = (s.context m).endsWith .done
            ⟨BitVec.ofNat 16 t.strikeLimit, (match t.selection with
              | none => 1
              | some n => BitVec.ofNat 16 (n.val + 2)), 0, 0, 0⟩))

/-! ## Inspection -/

/-- INSPECT: BAD-OPERAND for an unknown kind and for a number or page beyond its range; else DONE with the five words of
the record or page as the tables lay them out, and nothing else changes (R158, R159, R160, R167). -/
def Obligations.InspectOutcome : Prop :=
  ∀ (s : State) (m : MasterId) (rest : List MasterId) (cmd : Captured), s.Takes m rest cmd → cmd.code = 0x18 →
    s.DeviceLaws →
    ∀ kind number page, kind = cmd.words.w0.toNat → number = cmd.words.w1.toNat → page = cmd.words.w2.toNat →
    (kind = 0 ∨ 4 < kind ∨ (kind = 1 ∧ (63 < number ∨ 33 < page)) ∨ (kind = 2 ∧ (15 < number ∨ 0 < page))
        ∨ (kind = 3 ∧ (7 < number ∨ 0 < page)) ∨ (kind = 4 ∧ 0 < page) →
      exec .inspect s = .next (s.takeEnds m rest .badOperand ⟨0, 0, 0, 0, 0⟩))
    ∧ (∀ w : WindowId, kind = 1 → number = w.val → page = 0 →
      ∃ ws, exec .inspect s = .next (s.takeEnds m rest .done ws)
      ∧ (∀ state, ((s.window w).state, state) ∈ windowStateCodes →
        ws.w0.toNat = state + (if (s.window w).space = .io then 8 else 0)
          + 16 * (s.window w).layer.val + 64 * (s.window w).slot.val + 1024 * (s.window w).sponsor.val)
      ∧ ws.w1.toNat = (s.window w).base + 4096 * (s.window w).strikes
      ∧ ws.w2.toNat = (s.window w).length
      ∧ ws.w3.toNat = (s.window w).readSet.toNat + 256 * (s.window w).writeSet.toNat
      ∧ ws.w4 = targetWord (s.window w).target)
    ∧ (∀ w : WindowId, kind = 1 → number = w.val → page = 1 →
      ∃ ws, exec .inspect s = .next (s.takeEnds m rest .done ws)
      ∧ (∀ c, (s.window w).change = some c → ws.w0.toNat = c.base + 32768 ∧ ws.w1.toNat = c.length
          ∧ ws.w2.toNat % 16 = c.slot.val ∧ ws.w3 = targetWord c.target)
      ∧ ((s.window w).change = none → ws.w0 = 0 ∧ ws.w1 = 0 ∧ ws.w2.toNat % 16 = 0 ∧ ws.w3 = 0)
      ∧ (∀ n, (s.window w).waiting = some n → ws.w2.toNat / 16 % 16 = 1 + 2 * n.val)
      ∧ ((s.window w).waiting = none → ws.w2.toNat / 16 % 16 = 0)
      ∧ ws.w2.toNat / 256 = s.ort.countP (fun e => e.window == w)
          + (match s.current with
            | some c => if c.window = w then 128 else 0
            | none => 0)
      ∧ ws.w4 = 0)
    ∧ (∀ (w : WindowId) (n : Nat), kind = 1 → number = w.val → page = n + 2 → n ≤ 31 →
      ∃ ws, exec .inspect s = .next (s.takeEnds m rest .done ws)
      ∧ ((s.ort.filter fun e => e.window == w)[n]? = none → ws = ⟨0, 0, 0, 0, 0⟩)
      ∧ ∀ e, (s.ort.filter fun e => e.window == w)[n]? = some e →
        ws.w0.toNat = e.master.val + 8 * e.tag.val + 128 * e.slot.val
            + 2048 * (match e.state with
              | .reserved => 1
              | .waiting _ => 2
              | .expired _ => 3) + 32768
        ∧ ws.w1.toNat = e.unit
        ∧ (e.state = .reserved → ws.w2 = 0)
        ∧ (∀ d, e.state = .waiting d → 1 ≤ d → ws.w2.toNat = (d + 63) / 64)
        ∧ (∀ f, e.state = .expired f → ws.w2.toNat = 256 * (if f = .silent then 4 else 7))
        ∧ ws.w3 = 0 ∧ ws.w4 = 0)
    ∧ (∀ k : SlotId, kind = 2 → number = k.val → page = 0 →
      ∃ ws, exec .inspect s = .next (s.takeEnds m rest .done ws)
      ∧ (∀ state, ((s.slot k).state, state) ∈ slotStateCodes →
        ws.w0.toNat = (if (s.slot k).present then 1 else 0) + 2 * state
          + (if (s.slot k).mode = .selfDecoding then 8 else 0))
      ∧ ws.w1.toNat = (s.slot k).ackLimit + 256 * (s.slot k).replyLimit
      ∧ ws.w2.toNat = (List.finRange 64).countP (fun w => (s.window w).state != .free && (s.window w).slot == k)
      ∧ ws.w3.toNat = (List.finRange 64).countP (fun w => (s.window w).state == .draining && (s.window w).slot == k)
      ∧ ws.w4.toNat = s.ort.countP fun e => e.slot == k)
    ∧ (∀ k : MasterId, kind = 3 → number = k.val → page = 0 →
      ∃ ws, exec .inspect s = .next (s.takeEnds m rest .done ws)
      ∧ ws.w0.toNat = (if (s.master k).enabled then 1 else 0) + (if (s.master k).supervisor then 2 else 0)
      ∧ ws.w1.toNat = s.ort.countP (fun e => e.master == k)
      ∧ ws.w2.toNat = (List.finRange 64).countP (fun w => (s.window w).state != .free && (s.window w).sponsor == k)
      ∧ ws.w3 = 0 ∧ ws.w4 = 0)
    ∧ (kind = 4 → page = 0 →
      ∃ ws, exec .inspect s = .next (s.takeEnds m rest .done ws)
      ∧ (∀ p ∈ [(ws.w0, s.attention.suspended), (ws.w1, s.attention.slotLost), (ws.w2, s.attention.orphanReply)],
          (p.2.raised = false → p.1 = 0)
          ∧ ∀ n, n < 64 → p.2.subject = some n → p.1.toNat = p.2.count + 256 * n + 16384 + 32768)
      ∧ (s.selection = none → ws.w3 = 1)
      ∧ (∀ n, s.selection = some n → ws.w3.toNat = n.val + 2)
      ∧ ws.w4 = 0)

/-- RESOLVE: BAD-OPERAND for an unknown space or kind, a master above 7 or a unit above 4095; else DONE with the outcome
that an address phase of that master, kind and unit would meet, and the window, slot, mode, LOF value and layer that go
with it; nothing else changes. The presence of the layer word is DEDUCED (R161, R166, R167; log 15). -/
def Obligations.ResolveOutcome : Prop :=
  ∀ (s : State) (m : MasterId) (rest : List MasterId) (cmd : Captured), s.Takes m rest cmd → cmd.code = 0x19 →
    s.RangeLaw →
    ∀ spaceCode kindCode masterCode unit, spaceCode = cmd.words.w0.toNat % 4 →
      kindCode = cmd.words.w0.toNat / 16 % 4 → masterCode = cmd.words.w0.toNat / 256 % 16 →
      unit = cmd.words.w1.toNat →
    (spaceCode = 0 ∨ spaceCode = 3 ∨ kindCode = 0 ∨ kindCode = 3 ∨ 8 ≤ masterCode ∨ 4096 ≤ unit →
      exec .resolve s = .next (s.takeEnds m rest .badOperand ⟨0, 0, 0, 0, 0⟩))
    ∧ ∀ (sp : Space) (kind : CycleKind) (n : MasterId), (sp = .mem → spaceCode = 1) → (sp = .io → spaceCode = 2) →
      (kind = .read ∧ kindCode = 1 ∨ kind = .write 0 ∧ kindCode = 2) → masterCode = n.val → unit < 4096 →
      ((s.master n).enabled = false →
        exec .resolve s = .next (s.takeEnds m rest .done ⟨3, 0, 0, 0, 0⟩))
      ∧ ((s.master n).enabled = true →
        ((∀ w, (s.window w).covers sp unit = false) →
          exec .resolve s = .next (s.takeEnds m rest .done ⟨2, 0, 0, 0, 0⟩))
        ∧ ∀ w, s.IsTop sp unit w → ∀ window layer : Word, window = BitVec.ofNat 16 (w.val + 32768) →
          layer = BitVec.ofNat 16 ((s.window w).layer.val + 32768) →
          ((s.window w).state = .suspended →
            exec .resolve s = .next (s.takeEnds m rest .done ⟨4, window, 0, 0, layer⟩))
          ∧ ((s.window w).state = .held →
            exec .resolve s = .next (s.takeEnds m rest .done ⟨5, window, 0, 0, layer⟩))
          ∧ ((s.window w).state = .draining →
            exec .resolve s = .next (s.takeEnds m rest .done ⟨7, window, 0, 0, layer⟩))
          ∧ ((s.window w).state = .active → ¬ (s.window w).allows n kind →
            exec .resolve s = .next (s.takeEnds m rest .done ⟨3, window, 0, 0, layer⟩))
          ∧ ((s.window w).state = .active → (s.window w).allows n kind → w = 0 →
            exec .resolve s = .next (s.takeEnds m rest .done ⟨8, window, 0, 0, layer⟩))
          ∧ ((s.window w).state = .active → (s.window w).allows n kind → w ≠ 0 →
            exec .resolve s = .next (s.takeEnds m rest .done
              ⟨9, window,
                BitVec.ofNat 16 ((s.window w).slot.val
                  + (if (s.slot (s.window w).slot).mode = .selfDecoding then 16 else 0) + 32768),
                targetWord (some (match (s.window w).target with
                  | none => unit
                  | some base => base + (unit - (s.window w).base))), layer⟩)))

/-! ## Laws of the device, kept by every step -/

/-- The laws of the Command Engine and of the waits: the queue holds exactly the QUEUED masters, each once, and every
WAITING context and its window name each other (R109, R114, R120). -/
def Obligations.CommandLawsKept : Prop :=
  ∀ s t : State, s.QueueLaw → s.WaitLaw → step s = .next t → t.QueueLaw ∧ t.WaitLaw

/-- The laws of the Read Tracker: at most 32 entries, no two of one pair, the fault-reply queue exactly the EXPIRED
entries, IDLE exactly while it is empty, no current cycle in a tenure, a RESERVED entry exactly for the current SPLIT
READ (R58, R59, R76, R77). -/
def Obligations.ReadTrackerLawsKept : Prop :=
  ∀ s t : State, s.OrtLaw → s.FaultQueueLaw → s.MastershipLaw → s.ReservedLaw → step s = .next t →
    t.OrtLaw ∧ t.FaultQueueLaw ∧ t.MastershipLaw ∧ t.ReservedLaw

/-- The laws of the Registry and of the attention records: slot 0 present and ONLINE, ABSENT exactly when not present,
limits from 1 to 255, at least one enabled supervisor, and sound reason records (R86, R93, R98, R155). -/
def Obligations.RegistryAndAttentionLawsKept : Prop :=
  ∀ s t : State, s.SlotLaw → s.PresenceLaw → s.SupervisorLaw → s.AttentionLaw → step s = .next t →
    t.SlotLaw ∧ t.PresenceLaw ∧ t.SupervisorLaw ∧ t.AttentionLaw

/-- All the laws of the device together are kept by every step: entry 0 as R19 has it, cleared FREE records, ranges
within bounds, no two windows of a layer at one unit, windows in service on ONLINE slots, strikes below the limit,
references to living windows on their slot, every line released but in a selected cycle or a tenure, and the laws above
(R1, R2, R4, R17, R19, R35, R37, R51, R60, R70). -/
def Obligations.DeviceLawsKept : Prop :=
  ∀ s t : State, s.DeviceLaws → step s = .next t → t.DeviceLaws

/-- The laws of the device hold right after reset. -/
def Obligations.DeviceLawsAtReset : Prop :=
  State.reset.DeviceLaws
end

