-- ==== Sys2Proof/Laws/State.lean ====
section
/-!
SUPPORT. One lemma per field per update of State, and the lemmas of reading a record after writing one, so that no
later proof unfolds a record update.
-/
namespace Sys2Proof.Machine

variable (s : State)

/-! ## Reading a record after writing one -/

@[simp] theorem State.window_setWindow_self (w : WindowId) (r : Window) : (s.setWindow w r).window w = r := by
  simp [State.window, State.setWindow]

theorem State.window_setWindow_ne {v w : WindowId} (r : Window) (h : v ≠ w) :
    (s.setWindow w r).window v = s.window v := by
  have h' : w.val ≠ v.val := fun e => h (Fin.ext e.symm)
  simp [State.window, State.setWindow, Vector.getElem_set_ne, h']

theorem State.window_setWindow (v w : WindowId) (r : Window) :
    (s.setWindow w r).window v = if v = w then r else s.window v := by
  split
  · subst v; simp
  · rename_i h; exact s.window_setWindow_ne r h

@[simp] theorem State.context_setContext_self (m : MasterId) (c : Context) : (s.setContext m c).context m = c := by
  simp [State.context, State.setContext]

theorem State.context_setContext_ne {n m : MasterId} (c : Context) (h : n ≠ m) :
    (s.setContext m c).context n = s.context n := by
  have h' : m.val ≠ n.val := fun e => h (Fin.ext e.symm)
  simp [State.context, State.setContext, Vector.getElem_set_ne, h']

theorem State.context_setContext (n m : MasterId) (c : Context) :
    (s.setContext m c).context n = if n = m then c else s.context n := by
  split
  · subst n; simp
  · rename_i h; exact s.context_setContext_ne c h

@[simp] theorem State.slot_setSlot_self (k : SlotId) (r : SlotRecord) : (s.setSlot k r).slot k = r := by
  simp [State.slot, State.setSlot]

theorem State.slot_setSlot (j k : SlotId) (r : SlotRecord) :
    (s.setSlot k r).slot j = if j = k then r else s.slot j := by
  split
  · subst j; simp
  · rename_i h
    have h' : k.val ≠ j.val := fun e => h (Fin.ext e.symm)
    simp [State.slot, State.setSlot, Vector.getElem_set_ne, h']

@[simp] theorem State.master_setMaster_self (m : MasterId) (r : MasterRecord) : (s.setMaster m r).master m = r := by
  simp [State.master, State.setMaster]

theorem State.master_setMaster (n m : MasterId) (r : MasterRecord) :
    (s.setMaster m r).master n = if n = m then r else s.master n := by
  split
  · subst n; simp
  · rename_i h
    have h' : m.val ≠ n.val := fun e => h (Fin.ext e.symm)
    simp [State.master, State.setMaster, Vector.getElem_set_ne, h']

theorem State.context_complete (n m : MasterId) (code : ResultCode) (ws : Words) :
    (s.complete m code ws).context n = if n = m then (s.context m).completed code ws else s.context n :=
  s.context_setContext n m _

/-- Two states with equal fields are equal; windows are compared record by record. -/
theorem State.windows_ext {a b : State} (h : ∀ w, a.window w = b.window w) : a.windows = b.windows := by
  apply Vector.ext
  intro i hi
  exact h ⟨i, hi⟩

/-- Contexts are compared record by record. -/
theorem State.contexts_ext {a b : State} (h : ∀ m, a.context m = b.context m) : a.contexts = b.contexts := by
  apply Vector.ext
  intro i hi
  exact h ⟨i, hi⟩

/-! ## setWindow -/
@[simp] theorem State.setWindow_current (w : WindowId) (r : Window) : (s.setWindow w r).current = s.current := rfl
@[simp] theorem State.setWindow_lines (w : WindowId) (r : Window) : (s.setWindow w r).lines = s.lines := rfl
@[simp] theorem State.setWindow_shown (w : WindowId) (r : Window) : (s.setWindow w r).shown = s.shown := rfl
@[simp] theorem State.setWindow_ort (w : WindowId) (r : Window) : (s.setWindow w r).ort = s.ort := rfl
@[simp] theorem State.setWindow_faultQueue (w : WindowId) (r : Window) : (s.setWindow w r).faultQueue = s.faultQueue := rfl
@[simp] theorem State.setWindow_mastership (w : WindowId) (r : Window) : (s.setWindow w r).mastership = s.mastership := rfl
@[simp] theorem State.setWindow_slots (w : WindowId) (r : Window) : (s.setWindow w r).slots = s.slots := rfl
@[simp] theorem State.setWindow_masters (w : WindowId) (r : Window) : (s.setWindow w r).masters = s.masters := rfl
@[simp] theorem State.setWindow_strikeLimit (w : WindowId) (r : Window) : (s.setWindow w r).strikeLimit = s.strikeLimit := rfl
@[simp] theorem State.setWindow_selection (w : WindowId) (r : Window) : (s.setWindow w r).selection = s.selection := rfl
@[simp] theorem State.setWindow_contexts (w : WindowId) (r : Window) : (s.setWindow w r).contexts = s.contexts := rfl
@[simp] theorem State.setWindow_queue (w : WindowId) (r : Window) : (s.setWindow w r).queue = s.queue := rfl
@[simp] theorem State.setWindow_attention (w : WindowId) (r : Window) : (s.setWindow w r).attention = s.attention := rfl
@[simp] theorem State.setWindow_pins (w : WindowId) (r : Window) : (s.setWindow w r).pins = s.pins := rfl
@[simp] theorem State.setWindow_pending (w : WindowId) (r : Window) : (s.setWindow w r).pending = s.pending := rfl
@[simp] theorem State.setWindow_context (w : WindowId) (r : Window) (n' : MasterId) : (s.setWindow w r).context n' = s.context n' := rfl
@[simp] theorem State.setWindow_slot (w : WindowId) (r : Window) (j : SlotId) : (s.setWindow w r).slot j = s.slot j := rfl
@[simp] theorem State.setWindow_master (w : WindowId) (r : Window) (n' : MasterId) : (s.setWindow w r).master n' = s.master n' := rfl

/-! ## setContext -/
@[simp] theorem State.setContext_windows (m : MasterId) (c : Context) : (s.setContext m c).windows = s.windows := rfl
@[simp] theorem State.setContext_current (m : MasterId) (c : Context) : (s.setContext m c).current = s.current := rfl
@[simp] theorem State.setContext_lines (m : MasterId) (c : Context) : (s.setContext m c).lines = s.lines := rfl
@[simp] theorem State.setContext_shown (m : MasterId) (c : Context) : (s.setContext m c).shown = s.shown := rfl
@[simp] theorem State.setContext_ort (m : MasterId) (c : Context) : (s.setContext m c).ort = s.ort := rfl
@[simp] theorem State.setContext_faultQueue (m : MasterId) (c : Context) : (s.setContext m c).faultQueue = s.faultQueue := rfl
@[simp] theorem State.setContext_mastership (m : MasterId) (c : Context) : (s.setContext m c).mastership = s.mastership := rfl
@[simp] theorem State.setContext_slots (m : MasterId) (c : Context) : (s.setContext m c).slots = s.slots := rfl
@[simp] theorem State.setContext_masters (m : MasterId) (c : Context) : (s.setContext m c).masters = s.masters := rfl
@[simp] theorem State.setContext_strikeLimit (m : MasterId) (c : Context) : (s.setContext m c).strikeLimit = s.strikeLimit := rfl
@[simp] theorem State.setContext_selection (m : MasterId) (c : Context) : (s.setContext m c).selection = s.selection := rfl
@[simp] theorem State.setContext_queue (m : MasterId) (c : Context) : (s.setContext m c).queue = s.queue := rfl
@[simp] theorem State.setContext_attention (m : MasterId) (c : Context) : (s.setContext m c).attention = s.attention := rfl
@[simp] theorem State.setContext_pins (m : MasterId) (c : Context) : (s.setContext m c).pins = s.pins := rfl
@[simp] theorem State.setContext_pending (m : MasterId) (c : Context) : (s.setContext m c).pending = s.pending := rfl
@[simp] theorem State.setContext_window (m : MasterId) (c : Context) (v : WindowId) : (s.setContext m c).window v = s.window v := rfl
@[simp] theorem State.setContext_slot (m : MasterId) (c : Context) (j : SlotId) : (s.setContext m c).slot j = s.slot j := rfl
@[simp] theorem State.setContext_master (m : MasterId) (c : Context) (n' : MasterId) : (s.setContext m c).master n' = s.master n' := rfl

/-! ## setSlot -/
@[simp] theorem State.setSlot_windows (k : SlotId) (r : SlotRecord) : (s.setSlot k r).windows = s.windows := rfl
@[simp] theorem State.setSlot_current (k : SlotId) (r : SlotRecord) : (s.setSlot k r).current = s.current := rfl
@[simp] theorem State.setSlot_lines (k : SlotId) (r : SlotRecord) : (s.setSlot k r).lines = s.lines := rfl
@[simp] theorem State.setSlot_shown (k : SlotId) (r : SlotRecord) : (s.setSlot k r).shown = s.shown := rfl
@[simp] theorem State.setSlot_ort (k : SlotId) (r : SlotRecord) : (s.setSlot k r).ort = s.ort := rfl
@[simp] theorem State.setSlot_faultQueue (k : SlotId) (r : SlotRecord) : (s.setSlot k r).faultQueue = s.faultQueue := rfl
@[simp] theorem State.setSlot_mastership (k : SlotId) (r : SlotRecord) : (s.setSlot k r).mastership = s.mastership := rfl
@[simp] theorem State.setSlot_masters (k : SlotId) (r : SlotRecord) : (s.setSlot k r).masters = s.masters := rfl
@[simp] theorem State.setSlot_strikeLimit (k : SlotId) (r : SlotRecord) : (s.setSlot k r).strikeLimit = s.strikeLimit := rfl
@[simp] theorem State.setSlot_selection (k : SlotId) (r : SlotRecord) : (s.setSlot k r).selection = s.selection := rfl
@[simp] theorem State.setSlot_contexts (k : SlotId) (r : SlotRecord) : (s.setSlot k r).contexts = s.contexts := rfl
@[simp] theorem State.setSlot_queue (k : SlotId) (r : SlotRecord) : (s.setSlot k r).queue = s.queue := rfl
@[simp] theorem State.setSlot_attention (k : SlotId) (r : SlotRecord) : (s.setSlot k r).attention = s.attention := rfl
@[simp] theorem State.setSlot_pins (k : SlotId) (r : SlotRecord) : (s.setSlot k r).pins = s.pins := rfl
@[simp] theorem State.setSlot_pending (k : SlotId) (r : SlotRecord) : (s.setSlot k r).pending = s.pending := rfl
@[simp] theorem State.setSlot_window (k : SlotId) (r : SlotRecord) (v : WindowId) : (s.setSlot k r).window v = s.window v := rfl
@[simp] theorem State.setSlot_context (k : SlotId) (r : SlotRecord) (n' : MasterId) : (s.setSlot k r).context n' = s.context n' := rfl
@[simp] theorem State.setSlot_master (k : SlotId) (r : SlotRecord) (n' : MasterId) : (s.setSlot k r).master n' = s.master n' := rfl

/-! ## setMaster -/
@[simp] theorem State.setMaster_windows (m : MasterId) (r : MasterRecord) : (s.setMaster m r).windows = s.windows := rfl
@[simp] theorem State.setMaster_current (m : MasterId) (r : MasterRecord) : (s.setMaster m r).current = s.current := rfl
@[simp] theorem State.setMaster_lines (m : MasterId) (r : MasterRecord) : (s.setMaster m r).lines = s.lines := rfl
@[simp] theorem State.setMaster_shown (m : MasterId) (r : MasterRecord) : (s.setMaster m r).shown = s.shown := rfl
@[simp] theorem State.setMaster_ort (m : MasterId) (r : MasterRecord) : (s.setMaster m r).ort = s.ort := rfl
@[simp] theorem State.setMaster_faultQueue (m : MasterId) (r : MasterRecord) : (s.setMaster m r).faultQueue = s.faultQueue := rfl
@[simp] theorem State.setMaster_mastership (m : MasterId) (r : MasterRecord) : (s.setMaster m r).mastership = s.mastership := rfl
@[simp] theorem State.setMaster_slots (m : MasterId) (r : MasterRecord) : (s.setMaster m r).slots = s.slots := rfl
@[simp] theorem State.setMaster_strikeLimit (m : MasterId) (r : MasterRecord) : (s.setMaster m r).strikeLimit = s.strikeLimit := rfl
@[simp] theorem State.setMaster_selection (m : MasterId) (r : MasterRecord) : (s.setMaster m r).selection = s.selection := rfl
@[simp] theorem State.setMaster_contexts (m : MasterId) (r : MasterRecord) : (s.setMaster m r).contexts = s.contexts := rfl
@[simp] theorem State.setMaster_queue (m : MasterId) (r : MasterRecord) : (s.setMaster m r).queue = s.queue := rfl
@[simp] theorem State.setMaster_attention (m : MasterId) (r : MasterRecord) : (s.setMaster m r).attention = s.attention := rfl
@[simp] theorem State.setMaster_pins (m : MasterId) (r : MasterRecord) : (s.setMaster m r).pins = s.pins := rfl
@[simp] theorem State.setMaster_pending (m : MasterId) (r : MasterRecord) : (s.setMaster m r).pending = s.pending := rfl
@[simp] theorem State.setMaster_window (m : MasterId) (r : MasterRecord) (v : WindowId) : (s.setMaster m r).window v = s.window v := rfl
@[simp] theorem State.setMaster_context (m : MasterId) (r : MasterRecord) (n' : MasterId) : (s.setMaster m r).context n' = s.context n' := rfl
@[simp] theorem State.setMaster_slot (m : MasterId) (r : MasterRecord) (j : SlotId) : (s.setMaster m r).slot j = s.slot j := rfl

/-! ## withLines -/
@[simp] theorem State.withLines_lines (l : Lines) : (s.withLines l).lines = l := rfl
@[simp] theorem State.withLines_shown (l : Lines) : (s.withLines l).shown = l := rfl
@[simp] theorem State.withLines_windows (l : Lines) : (s.withLines l).windows = s.windows := rfl
@[simp] theorem State.withLines_current (l : Lines) : (s.withLines l).current = s.current := rfl
@[simp] theorem State.withLines_ort (l : Lines) : (s.withLines l).ort = s.ort := rfl
@[simp] theorem State.withLines_faultQueue (l : Lines) : (s.withLines l).faultQueue = s.faultQueue := rfl
@[simp] theorem State.withLines_mastership (l : Lines) : (s.withLines l).mastership = s.mastership := rfl
@[simp] theorem State.withLines_slots (l : Lines) : (s.withLines l).slots = s.slots := rfl
@[simp] theorem State.withLines_masters (l : Lines) : (s.withLines l).masters = s.masters := rfl
@[simp] theorem State.withLines_strikeLimit (l : Lines) : (s.withLines l).strikeLimit = s.strikeLimit := rfl
@[simp] theorem State.withLines_selection (l : Lines) : (s.withLines l).selection = s.selection := rfl
@[simp] theorem State.withLines_contexts (l : Lines) : (s.withLines l).contexts = s.contexts := rfl
@[simp] theorem State.withLines_queue (l : Lines) : (s.withLines l).queue = s.queue := rfl
@[simp] theorem State.withLines_attention (l : Lines) : (s.withLines l).attention = s.attention := rfl
@[simp] theorem State.withLines_pins (l : Lines) : (s.withLines l).pins = s.pins := rfl
@[simp] theorem State.withLines_pending (l : Lines) : (s.withLines l).pending = s.pending := rfl
@[simp] theorem State.withLines_window (l : Lines) (v : WindowId) : (s.withLines l).window v = s.window v := rfl
@[simp] theorem State.withLines_context (l : Lines) (n' : MasterId) : (s.withLines l).context n' = s.context n' := rfl
@[simp] theorem State.withLines_slot (l : Lines) (j : SlotId) : (s.withLines l).slot j = s.slot j := rfl
@[simp] theorem State.withLines_master (l : Lines) (n' : MasterId) : (s.withLines l).master n' = s.master n' := rfl

/-! ## releaseLines -/
@[simp] theorem State.releaseLines_lines (l : Lines) : (s.releaseLines l).lines = .idle := rfl
@[simp] theorem State.releaseLines_shown (l : Lines) : (s.releaseLines l).shown = l := rfl
@[simp] theorem State.releaseLines_windows (l : Lines) : (s.releaseLines l).windows = s.windows := rfl
@[simp] theorem State.releaseLines_current (l : Lines) : (s.releaseLines l).current = s.current := rfl
@[simp] theorem State.releaseLines_ort (l : Lines) : (s.releaseLines l).ort = s.ort := rfl
@[simp] theorem State.releaseLines_faultQueue (l : Lines) : (s.releaseLines l).faultQueue = s.faultQueue := rfl
@[simp] theorem State.releaseLines_mastership (l : Lines) : (s.releaseLines l).mastership = s.mastership := rfl
@[simp] theorem State.releaseLines_slots (l : Lines) : (s.releaseLines l).slots = s.slots := rfl
@[simp] theorem State.releaseLines_masters (l : Lines) : (s.releaseLines l).masters = s.masters := rfl
@[simp] theorem State.releaseLines_strikeLimit (l : Lines) : (s.releaseLines l).strikeLimit = s.strikeLimit := rfl
@[simp] theorem State.releaseLines_selection (l : Lines) : (s.releaseLines l).selection = s.selection := rfl
@[simp] theorem State.releaseLines_contexts (l : Lines) : (s.releaseLines l).contexts = s.contexts := rfl
@[simp] theorem State.releaseLines_queue (l : Lines) : (s.releaseLines l).queue = s.queue := rfl
@[simp] theorem State.releaseLines_attention (l : Lines) : (s.releaseLines l).attention = s.attention := rfl
@[simp] theorem State.releaseLines_pins (l : Lines) : (s.releaseLines l).pins = s.pins := rfl
@[simp] theorem State.releaseLines_pending (l : Lines) : (s.releaseLines l).pending = s.pending := rfl
@[simp] theorem State.releaseLines_window (l : Lines) (v : WindowId) : (s.releaseLines l).window v = s.window v := rfl
@[simp] theorem State.releaseLines_context (l : Lines) (n' : MasterId) : (s.releaseLines l).context n' = s.context n' := rfl
@[simp] theorem State.releaseLines_slot (l : Lines) (j : SlotId) : (s.releaseLines l).slot j = s.slot j := rfl
@[simp] theorem State.releaseLines_master (l : Lines) (n' : MasterId) : (s.releaseLines l).master n' = s.master n' := rfl

/-! ## raise -/
@[simp] theorem State.raise_windows (r : Reason) (n : Nat) : (s.raise r n).windows = s.windows := rfl
@[simp] theorem State.raise_current (r : Reason) (n : Nat) : (s.raise r n).current = s.current := rfl
@[simp] theorem State.raise_lines (r : Reason) (n : Nat) : (s.raise r n).lines = s.lines := rfl
@[simp] theorem State.raise_shown (r : Reason) (n : Nat) : (s.raise r n).shown = s.shown := rfl
@[simp] theorem State.raise_ort (r : Reason) (n : Nat) : (s.raise r n).ort = s.ort := rfl
@[simp] theorem State.raise_faultQueue (r : Reason) (n : Nat) : (s.raise r n).faultQueue = s.faultQueue := rfl
@[simp] theorem State.raise_mastership (r : Reason) (n : Nat) : (s.raise r n).mastership = s.mastership := rfl
@[simp] theorem State.raise_slots (r : Reason) (n : Nat) : (s.raise r n).slots = s.slots := rfl
@[simp] theorem State.raise_masters (r : Reason) (n : Nat) : (s.raise r n).masters = s.masters := rfl
@[simp] theorem State.raise_strikeLimit (r : Reason) (n : Nat) : (s.raise r n).strikeLimit = s.strikeLimit := rfl
@[simp] theorem State.raise_selection (r : Reason) (n : Nat) : (s.raise r n).selection = s.selection := rfl
@[simp] theorem State.raise_contexts (r : Reason) (n : Nat) : (s.raise r n).contexts = s.contexts := rfl
@[simp] theorem State.raise_queue (r : Reason) (n : Nat) : (s.raise r n).queue = s.queue := rfl
@[simp] theorem State.raise_pins (r : Reason) (n : Nat) : (s.raise r n).pins = s.pins := rfl
@[simp] theorem State.raise_pending (r : Reason) (n : Nat) : (s.raise r n).pending = s.pending := rfl
@[simp] theorem State.raise_window (r : Reason) (n : Nat) (v : WindowId) : (s.raise r n).window v = s.window v := rfl
@[simp] theorem State.raise_context (r : Reason) (n : Nat) (n' : MasterId) : (s.raise r n).context n' = s.context n' := rfl
@[simp] theorem State.raise_slot (r : Reason) (n : Nat) (j : SlotId) : (s.raise r n).slot j = s.slot j := rfl
@[simp] theorem State.raise_master (r : Reason) (n : Nat) (n' : MasterId) : (s.raise r n).master n' = s.master n' := rfl

/-! ## complete -/
@[simp] theorem State.complete_windows (m : MasterId) (code : ResultCode) (ws : Words) : (s.complete m code ws).windows = s.windows := rfl
@[simp] theorem State.complete_current (m : MasterId) (code : ResultCode) (ws : Words) : (s.complete m code ws).current = s.current := rfl
@[simp] theorem State.complete_lines (m : MasterId) (code : ResultCode) (ws : Words) : (s.complete m code ws).lines = s.lines := rfl
@[simp] theorem State.complete_shown (m : MasterId) (code : ResultCode) (ws : Words) : (s.complete m code ws).shown = s.shown := rfl
@[simp] theorem State.complete_ort (m : MasterId) (code : ResultCode) (ws : Words) : (s.complete m code ws).ort = s.ort := rfl
@[simp] theorem State.complete_faultQueue (m : MasterId) (code : ResultCode) (ws : Words) : (s.complete m code ws).faultQueue = s.faultQueue := rfl
@[simp] theorem State.complete_mastership (m : MasterId) (code : ResultCode) (ws : Words) : (s.complete m code ws).mastership = s.mastership := rfl
@[simp] theorem State.complete_slots (m : MasterId) (code : ResultCode) (ws : Words) : (s.complete m code ws).slots = s.slots := rfl
@[simp] theorem State.complete_masters (m : MasterId) (code : ResultCode) (ws : Words) : (s.complete m code ws).masters = s.masters := rfl
@[simp] theorem State.complete_strikeLimit (m : MasterId) (code : ResultCode) (ws : Words) : (s.complete m code ws).strikeLimit = s.strikeLimit := rfl
@[simp] theorem State.complete_selection (m : MasterId) (code : ResultCode) (ws : Words) : (s.complete m code ws).selection = s.selection := rfl
@[simp] theorem State.complete_queue (m : MasterId) (code : ResultCode) (ws : Words) : (s.complete m code ws).queue = s.queue := rfl
@[simp] theorem State.complete_attention (m : MasterId) (code : ResultCode) (ws : Words) : (s.complete m code ws).attention = s.attention := rfl
@[simp] theorem State.complete_pins (m : MasterId) (code : ResultCode) (ws : Words) : (s.complete m code ws).pins = s.pins := rfl
@[simp] theorem State.complete_pending (m : MasterId) (code : ResultCode) (ws : Words) : (s.complete m code ws).pending = s.pending := rfl
@[simp] theorem State.complete_window (m : MasterId) (code : ResultCode) (ws : Words) (v : WindowId) : (s.complete m code ws).window v = s.window v := rfl
@[simp] theorem State.complete_slot (m : MasterId) (code : ResultCode) (ws : Words) (j : SlotId) : (s.complete m code ws).slot j = s.slot j := rfl
@[simp] theorem State.complete_master (m : MasterId) (code : ResultCode) (ws : Words) (n' : MasterId) : (s.complete m code ws).master n' = s.master n' := rfl

/-! ## setEntryState -/
@[simp] theorem State.setEntryState_windows (k : MasterId × Tag) (st : EntryState) : (s.setEntryState k st).windows = s.windows := rfl
@[simp] theorem State.setEntryState_current (k : MasterId × Tag) (st : EntryState) : (s.setEntryState k st).current = s.current := rfl
@[simp] theorem State.setEntryState_lines (k : MasterId × Tag) (st : EntryState) : (s.setEntryState k st).lines = s.lines := rfl
@[simp] theorem State.setEntryState_shown (k : MasterId × Tag) (st : EntryState) : (s.setEntryState k st).shown = s.shown := rfl
@[simp] theorem State.setEntryState_faultQueue (k : MasterId × Tag) (st : EntryState) : (s.setEntryState k st).faultQueue = s.faultQueue := rfl
@[simp] theorem State.setEntryState_mastership (k : MasterId × Tag) (st : EntryState) : (s.setEntryState k st).mastership = s.mastership := rfl
@[simp] theorem State.setEntryState_slots (k : MasterId × Tag) (st : EntryState) : (s.setEntryState k st).slots = s.slots := rfl
@[simp] theorem State.setEntryState_masters (k : MasterId × Tag) (st : EntryState) : (s.setEntryState k st).masters = s.masters := rfl
@[simp] theorem State.setEntryState_strikeLimit (k : MasterId × Tag) (st : EntryState) : (s.setEntryState k st).strikeLimit = s.strikeLimit := rfl
@[simp] theorem State.setEntryState_selection (k : MasterId × Tag) (st : EntryState) : (s.setEntryState k st).selection = s.selection := rfl
@[simp] theorem State.setEntryState_contexts (k : MasterId × Tag) (st : EntryState) : (s.setEntryState k st).contexts = s.contexts := rfl
@[simp] theorem State.setEntryState_queue (k : MasterId × Tag) (st : EntryState) : (s.setEntryState k st).queue = s.queue := rfl
@[simp] theorem State.setEntryState_attention (k : MasterId × Tag) (st : EntryState) : (s.setEntryState k st).attention = s.attention := rfl
@[simp] theorem State.setEntryState_pins (k : MasterId × Tag) (st : EntryState) : (s.setEntryState k st).pins = s.pins := rfl
@[simp] theorem State.setEntryState_pending (k : MasterId × Tag) (st : EntryState) : (s.setEntryState k st).pending = s.pending := rfl
@[simp] theorem State.setEntryState_window (k : MasterId × Tag) (st : EntryState) (v : WindowId) : (s.setEntryState k st).window v = s.window v := rfl
@[simp] theorem State.setEntryState_context (k : MasterId × Tag) (st : EntryState) (n' : MasterId) : (s.setEntryState k st).context n' = s.context n' := rfl
@[simp] theorem State.setEntryState_slot (k : MasterId × Tag) (st : EntryState) (j : SlotId) : (s.setEntryState k st).slot j = s.slot j := rfl
@[simp] theorem State.setEntryState_master (k : MasterId × Tag) (st : EntryState) (n' : MasterId) : (s.setEntryState k st).master n' = s.master n' := rfl

/-! ## dropEntry -/
@[simp] theorem State.dropEntry_windows (k : MasterId × Tag) : (s.dropEntry k).windows = s.windows := rfl
@[simp] theorem State.dropEntry_current (k : MasterId × Tag) : (s.dropEntry k).current = s.current := rfl
@[simp] theorem State.dropEntry_lines (k : MasterId × Tag) : (s.dropEntry k).lines = s.lines := rfl
@[simp] theorem State.dropEntry_shown (k : MasterId × Tag) : (s.dropEntry k).shown = s.shown := rfl
@[simp] theorem State.dropEntry_mastership (k : MasterId × Tag) : (s.dropEntry k).mastership = s.mastership := rfl
@[simp] theorem State.dropEntry_slots (k : MasterId × Tag) : (s.dropEntry k).slots = s.slots := rfl
@[simp] theorem State.dropEntry_masters (k : MasterId × Tag) : (s.dropEntry k).masters = s.masters := rfl
@[simp] theorem State.dropEntry_strikeLimit (k : MasterId × Tag) : (s.dropEntry k).strikeLimit = s.strikeLimit := rfl
@[simp] theorem State.dropEntry_selection (k : MasterId × Tag) : (s.dropEntry k).selection = s.selection := rfl
@[simp] theorem State.dropEntry_contexts (k : MasterId × Tag) : (s.dropEntry k).contexts = s.contexts := rfl
@[simp] theorem State.dropEntry_queue (k : MasterId × Tag) : (s.dropEntry k).queue = s.queue := rfl
@[simp] theorem State.dropEntry_attention (k : MasterId × Tag) : (s.dropEntry k).attention = s.attention := rfl
@[simp] theorem State.dropEntry_pins (k : MasterId × Tag) : (s.dropEntry k).pins = s.pins := rfl
@[simp] theorem State.dropEntry_pending (k : MasterId × Tag) : (s.dropEntry k).pending = s.pending := rfl
@[simp] theorem State.dropEntry_window (k : MasterId × Tag) (v : WindowId) : (s.dropEntry k).window v = s.window v := rfl
@[simp] theorem State.dropEntry_context (k : MasterId × Tag) (n' : MasterId) : (s.dropEntry k).context n' = s.context n' := rfl
@[simp] theorem State.dropEntry_slot (k : MasterId × Tag) (j : SlotId) : (s.dropEntry k).slot j = s.slot j := rfl
@[simp] theorem State.dropEntry_master (k : MasterId × Tag) (n' : MasterId) : (s.dropEntry k).master n' = s.master n' := rfl

/-! ## reserve -/
@[simp] theorem State.reserve_windows (m : MasterId) (tag : Tag) (w : WindowId) (u : Nat) : (s.reserve m tag w u).windows = s.windows := rfl
@[simp] theorem State.reserve_current (m : MasterId) (tag : Tag) (w : WindowId) (u : Nat) : (s.reserve m tag w u).current = s.current := rfl
@[simp] theorem State.reserve_lines (m : MasterId) (tag : Tag) (w : WindowId) (u : Nat) : (s.reserve m tag w u).lines = s.lines := rfl
@[simp] theorem State.reserve_shown (m : MasterId) (tag : Tag) (w : WindowId) (u : Nat) : (s.reserve m tag w u).shown = s.shown := rfl
@[simp] theorem State.reserve_faultQueue (m : MasterId) (tag : Tag) (w : WindowId) (u : Nat) : (s.reserve m tag w u).faultQueue = s.faultQueue := rfl
@[simp] theorem State.reserve_mastership (m : MasterId) (tag : Tag) (w : WindowId) (u : Nat) : (s.reserve m tag w u).mastership = s.mastership := rfl
@[simp] theorem State.reserve_slots (m : MasterId) (tag : Tag) (w : WindowId) (u : Nat) : (s.reserve m tag w u).slots = s.slots := rfl
@[simp] theorem State.reserve_masters (m : MasterId) (tag : Tag) (w : WindowId) (u : Nat) : (s.reserve m tag w u).masters = s.masters := rfl
@[simp] theorem State.reserve_strikeLimit (m : MasterId) (tag : Tag) (w : WindowId) (u : Nat) : (s.reserve m tag w u).strikeLimit = s.strikeLimit := rfl
@[simp] theorem State.reserve_selection (m : MasterId) (tag : Tag) (w : WindowId) (u : Nat) : (s.reserve m tag w u).selection = s.selection := rfl
@[simp] theorem State.reserve_contexts (m : MasterId) (tag : Tag) (w : WindowId) (u : Nat) : (s.reserve m tag w u).contexts = s.contexts := rfl
@[simp] theorem State.reserve_queue (m : MasterId) (tag : Tag) (w : WindowId) (u : Nat) : (s.reserve m tag w u).queue = s.queue := rfl
@[simp] theorem State.reserve_attention (m : MasterId) (tag : Tag) (w : WindowId) (u : Nat) : (s.reserve m tag w u).attention = s.attention := rfl
@[simp] theorem State.reserve_pins (m : MasterId) (tag : Tag) (w : WindowId) (u : Nat) : (s.reserve m tag w u).pins = s.pins := rfl
@[simp] theorem State.reserve_pending (m : MasterId) (tag : Tag) (w : WindowId) (u : Nat) : (s.reserve m tag w u).pending = s.pending := rfl
@[simp] theorem State.reserve_window (m : MasterId) (tag : Tag) (w : WindowId) (u : Nat) (v : WindowId) : (s.reserve m tag w u).window v = s.window v := rfl
@[simp] theorem State.reserve_context (m : MasterId) (tag : Tag) (w : WindowId) (u : Nat) (n' : MasterId) : (s.reserve m tag w u).context n' = s.context n' := rfl
@[simp] theorem State.reserve_slot (m : MasterId) (tag : Tag) (w : WindowId) (u : Nat) (j : SlotId) : (s.reserve m tag w u).slot j = s.slot j := rfl
@[simp] theorem State.reserve_master (m : MasterId) (tag : Tag) (w : WindowId) (u : Nat) (n' : MasterId) : (s.reserve m tag w u).master n' = s.master n' := rfl

/-! ## select -/
@[simp] theorem State.select_windows (m : MasterId) (kind : CurrentKind) (w : WindowId) (u : Nat) : (s.select m kind w u).windows = s.windows := rfl
@[simp] theorem State.select_ort (m : MasterId) (kind : CurrentKind) (w : WindowId) (u : Nat) : (s.select m kind w u).ort = s.ort := rfl
@[simp] theorem State.select_faultQueue (m : MasterId) (kind : CurrentKind) (w : WindowId) (u : Nat) : (s.select m kind w u).faultQueue = s.faultQueue := rfl
@[simp] theorem State.select_mastership (m : MasterId) (kind : CurrentKind) (w : WindowId) (u : Nat) : (s.select m kind w u).mastership = s.mastership := rfl
@[simp] theorem State.select_slots (m : MasterId) (kind : CurrentKind) (w : WindowId) (u : Nat) : (s.select m kind w u).slots = s.slots := rfl
@[simp] theorem State.select_masters (m : MasterId) (kind : CurrentKind) (w : WindowId) (u : Nat) : (s.select m kind w u).masters = s.masters := rfl
@[simp] theorem State.select_strikeLimit (m : MasterId) (kind : CurrentKind) (w : WindowId) (u : Nat) : (s.select m kind w u).strikeLimit = s.strikeLimit := rfl
@[simp] theorem State.select_selection (m : MasterId) (kind : CurrentKind) (w : WindowId) (u : Nat) : (s.select m kind w u).selection = s.selection := rfl
@[simp] theorem State.select_contexts (m : MasterId) (kind : CurrentKind) (w : WindowId) (u : Nat) : (s.select m kind w u).contexts = s.contexts := rfl
@[simp] theorem State.select_queue (m : MasterId) (kind : CurrentKind) (w : WindowId) (u : Nat) : (s.select m kind w u).queue = s.queue := rfl
@[simp] theorem State.select_attention (m : MasterId) (kind : CurrentKind) (w : WindowId) (u : Nat) : (s.select m kind w u).attention = s.attention := rfl
@[simp] theorem State.select_pins (m : MasterId) (kind : CurrentKind) (w : WindowId) (u : Nat) : (s.select m kind w u).pins = s.pins := rfl
@[simp] theorem State.select_pending (m : MasterId) (kind : CurrentKind) (w : WindowId) (u : Nat) : (s.select m kind w u).pending = s.pending := rfl
@[simp] theorem State.select_window (m : MasterId) (kind : CurrentKind) (w : WindowId) (u : Nat) (v : WindowId) : (s.select m kind w u).window v = s.window v := rfl
@[simp] theorem State.select_context (m : MasterId) (kind : CurrentKind) (w : WindowId) (u : Nat) (n' : MasterId) : (s.select m kind w u).context n' = s.context n' := rfl
@[simp] theorem State.select_slot (m : MasterId) (kind : CurrentKind) (w : WindowId) (u : Nat) (j : SlotId) : (s.select m kind w u).slot j = s.slot j := rfl
@[simp] theorem State.select_master (m : MasterId) (kind : CurrentKind) (w : WindowId) (u : Nat) (n' : MasterId) : (s.select m kind w u).master n' = s.master n' := rfl

/-! ## answer -/
@[simp] theorem State.answer_windows (st : Status) : (s.answer st).windows = s.windows := rfl
@[simp] theorem State.answer_current (st : Status) : (s.answer st).current = s.current := rfl
@[simp] theorem State.answer_ort (st : Status) : (s.answer st).ort = s.ort := rfl
@[simp] theorem State.answer_faultQueue (st : Status) : (s.answer st).faultQueue = s.faultQueue := rfl
@[simp] theorem State.answer_mastership (st : Status) : (s.answer st).mastership = s.mastership := rfl
@[simp] theorem State.answer_slots (st : Status) : (s.answer st).slots = s.slots := rfl
@[simp] theorem State.answer_masters (st : Status) : (s.answer st).masters = s.masters := rfl
@[simp] theorem State.answer_strikeLimit (st : Status) : (s.answer st).strikeLimit = s.strikeLimit := rfl
@[simp] theorem State.answer_selection (st : Status) : (s.answer st).selection = s.selection := rfl
@[simp] theorem State.answer_contexts (st : Status) : (s.answer st).contexts = s.contexts := rfl
@[simp] theorem State.answer_queue (st : Status) : (s.answer st).queue = s.queue := rfl
@[simp] theorem State.answer_attention (st : Status) : (s.answer st).attention = s.attention := rfl
@[simp] theorem State.answer_pins (st : Status) : (s.answer st).pins = s.pins := rfl
@[simp] theorem State.answer_pending (st : Status) : (s.answer st).pending = s.pending := rfl
@[simp] theorem State.answer_window (st : Status) (v : WindowId) : (s.answer st).window v = s.window v := rfl
@[simp] theorem State.answer_context (st : Status) (n' : MasterId) : (s.answer st).context n' = s.context n' := rfl
@[simp] theorem State.answer_slot (st : Status) (j : SlotId) : (s.answer st).slot j = s.slot j := rfl
@[simp] theorem State.answer_master (st : Status) (n' : MasterId) : (s.answer st).master n' = s.master n' := rfl

/-! ## serve -/
@[simp] theorem State.serve_windows (d : Option Word) : (s.serve d).windows = s.windows := rfl
@[simp] theorem State.serve_current (d : Option Word) : (s.serve d).current = s.current := rfl
@[simp] theorem State.serve_ort (d : Option Word) : (s.serve d).ort = s.ort := rfl
@[simp] theorem State.serve_faultQueue (d : Option Word) : (s.serve d).faultQueue = s.faultQueue := rfl
@[simp] theorem State.serve_mastership (d : Option Word) : (s.serve d).mastership = s.mastership := rfl
@[simp] theorem State.serve_slots (d : Option Word) : (s.serve d).slots = s.slots := rfl
@[simp] theorem State.serve_masters (d : Option Word) : (s.serve d).masters = s.masters := rfl
@[simp] theorem State.serve_strikeLimit (d : Option Word) : (s.serve d).strikeLimit = s.strikeLimit := rfl
@[simp] theorem State.serve_selection (d : Option Word) : (s.serve d).selection = s.selection := rfl
@[simp] theorem State.serve_contexts (d : Option Word) : (s.serve d).contexts = s.contexts := rfl
@[simp] theorem State.serve_queue (d : Option Word) : (s.serve d).queue = s.queue := rfl
@[simp] theorem State.serve_attention (d : Option Word) : (s.serve d).attention = s.attention := rfl
@[simp] theorem State.serve_pins (d : Option Word) : (s.serve d).pins = s.pins := rfl
@[simp] theorem State.serve_pending (d : Option Word) : (s.serve d).pending = s.pending := rfl
@[simp] theorem State.serve_window (d : Option Word) (v : WindowId) : (s.serve d).window v = s.window v := rfl
@[simp] theorem State.serve_context (d : Option Word) (n' : MasterId) : (s.serve d).context n' = s.context n' := rfl
@[simp] theorem State.serve_slot (d : Option Word) (j : SlotId) : (s.serve d).slot j = s.slot j := rfl
@[simp] theorem State.serve_master (d : Option Word) (n' : MasterId) : (s.serve d).master n' = s.master n' := rfl

/-! ## stage -/
@[simp] theorem State.stage_windows (m : MasterId) (n : Fin 5) (d : Word) : (s.stage m n d).windows = s.windows := rfl
@[simp] theorem State.stage_current (m : MasterId) (n : Fin 5) (d : Word) : (s.stage m n d).current = s.current := rfl
@[simp] theorem State.stage_lines (m : MasterId) (n : Fin 5) (d : Word) : (s.stage m n d).lines = s.lines := rfl
@[simp] theorem State.stage_shown (m : MasterId) (n : Fin 5) (d : Word) : (s.stage m n d).shown = s.shown := rfl
@[simp] theorem State.stage_ort (m : MasterId) (n : Fin 5) (d : Word) : (s.stage m n d).ort = s.ort := rfl
@[simp] theorem State.stage_faultQueue (m : MasterId) (n : Fin 5) (d : Word) : (s.stage m n d).faultQueue = s.faultQueue := rfl
@[simp] theorem State.stage_mastership (m : MasterId) (n : Fin 5) (d : Word) : (s.stage m n d).mastership = s.mastership := rfl
@[simp] theorem State.stage_slots (m : MasterId) (n : Fin 5) (d : Word) : (s.stage m n d).slots = s.slots := rfl
@[simp] theorem State.stage_masters (m : MasterId) (n : Fin 5) (d : Word) : (s.stage m n d).masters = s.masters := rfl
@[simp] theorem State.stage_strikeLimit (m : MasterId) (n : Fin 5) (d : Word) : (s.stage m n d).strikeLimit = s.strikeLimit := rfl
@[simp] theorem State.stage_selection (m : MasterId) (n : Fin 5) (d : Word) : (s.stage m n d).selection = s.selection := rfl
@[simp] theorem State.stage_queue (m : MasterId) (n : Fin 5) (d : Word) : (s.stage m n d).queue = s.queue := rfl
@[simp] theorem State.stage_attention (m : MasterId) (n : Fin 5) (d : Word) : (s.stage m n d).attention = s.attention := rfl
@[simp] theorem State.stage_pins (m : MasterId) (n : Fin 5) (d : Word) : (s.stage m n d).pins = s.pins := rfl
@[simp] theorem State.stage_pending (m : MasterId) (n : Fin 5) (d : Word) : (s.stage m n d).pending = s.pending := rfl
@[simp] theorem State.stage_window (m : MasterId) (n : Fin 5) (d : Word) (v : WindowId) : (s.stage m n d).window v = s.window v := rfl
@[simp] theorem State.stage_slot (m : MasterId) (n : Fin 5) (d : Word) (j : SlotId) : (s.stage m n d).slot j = s.slot j := rfl
@[simp] theorem State.stage_master (m : MasterId) (n : Fin 5) (d : Word) (n' : MasterId) : (s.stage m n d).master n' = s.master n' := rfl

/-! ## refuse -/
@[simp] theorem State.refuse_windows (m : MasterId) (code : ResultCode) : (s.refuse m code).windows = s.windows := rfl
@[simp] theorem State.refuse_current (m : MasterId) (code : ResultCode) : (s.refuse m code).current = s.current := rfl
@[simp] theorem State.refuse_lines (m : MasterId) (code : ResultCode) : (s.refuse m code).lines = s.lines := rfl
@[simp] theorem State.refuse_shown (m : MasterId) (code : ResultCode) : (s.refuse m code).shown = s.shown := rfl
@[simp] theorem State.refuse_ort (m : MasterId) (code : ResultCode) : (s.refuse m code).ort = s.ort := rfl
@[simp] theorem State.refuse_faultQueue (m : MasterId) (code : ResultCode) : (s.refuse m code).faultQueue = s.faultQueue := rfl
@[simp] theorem State.refuse_mastership (m : MasterId) (code : ResultCode) : (s.refuse m code).mastership = s.mastership := rfl
@[simp] theorem State.refuse_slots (m : MasterId) (code : ResultCode) : (s.refuse m code).slots = s.slots := rfl
@[simp] theorem State.refuse_masters (m : MasterId) (code : ResultCode) : (s.refuse m code).masters = s.masters := rfl
@[simp] theorem State.refuse_strikeLimit (m : MasterId) (code : ResultCode) : (s.refuse m code).strikeLimit = s.strikeLimit := rfl
@[simp] theorem State.refuse_selection (m : MasterId) (code : ResultCode) : (s.refuse m code).selection = s.selection := rfl
@[simp] theorem State.refuse_queue (m : MasterId) (code : ResultCode) : (s.refuse m code).queue = s.queue := rfl
@[simp] theorem State.refuse_attention (m : MasterId) (code : ResultCode) : (s.refuse m code).attention = s.attention := rfl
@[simp] theorem State.refuse_pins (m : MasterId) (code : ResultCode) : (s.refuse m code).pins = s.pins := rfl
@[simp] theorem State.refuse_pending (m : MasterId) (code : ResultCode) : (s.refuse m code).pending = s.pending := rfl
@[simp] theorem State.refuse_window (m : MasterId) (code : ResultCode) (v : WindowId) : (s.refuse m code).window v = s.window v := rfl
@[simp] theorem State.refuse_slot (m : MasterId) (code : ResultCode) (j : SlotId) : (s.refuse m code).slot j = s.slot j := rfl
@[simp] theorem State.refuse_master (m : MasterId) (code : ResultCode) (n' : MasterId) : (s.refuse m code).master n' = s.master n' := rfl

/-! ## done -/
@[simp] theorem State.done_windows (m : MasterId) (ws : Words) : (s.done m ws).windows = s.windows := rfl
@[simp] theorem State.done_current (m : MasterId) (ws : Words) : (s.done m ws).current = s.current := rfl
@[simp] theorem State.done_lines (m : MasterId) (ws : Words) : (s.done m ws).lines = s.lines := rfl
@[simp] theorem State.done_shown (m : MasterId) (ws : Words) : (s.done m ws).shown = s.shown := rfl
@[simp] theorem State.done_ort (m : MasterId) (ws : Words) : (s.done m ws).ort = s.ort := rfl
@[simp] theorem State.done_faultQueue (m : MasterId) (ws : Words) : (s.done m ws).faultQueue = s.faultQueue := rfl
@[simp] theorem State.done_mastership (m : MasterId) (ws : Words) : (s.done m ws).mastership = s.mastership := rfl
@[simp] theorem State.done_slots (m : MasterId) (ws : Words) : (s.done m ws).slots = s.slots := rfl
@[simp] theorem State.done_masters (m : MasterId) (ws : Words) : (s.done m ws).masters = s.masters := rfl
@[simp] theorem State.done_strikeLimit (m : MasterId) (ws : Words) : (s.done m ws).strikeLimit = s.strikeLimit := rfl
@[simp] theorem State.done_selection (m : MasterId) (ws : Words) : (s.done m ws).selection = s.selection := rfl
@[simp] theorem State.done_queue (m : MasterId) (ws : Words) : (s.done m ws).queue = s.queue := rfl
@[simp] theorem State.done_attention (m : MasterId) (ws : Words) : (s.done m ws).attention = s.attention := rfl
@[simp] theorem State.done_pins (m : MasterId) (ws : Words) : (s.done m ws).pins = s.pins := rfl
@[simp] theorem State.done_pending (m : MasterId) (ws : Words) : (s.done m ws).pending = s.pending := rfl
@[simp] theorem State.done_window (m : MasterId) (ws : Words) (v : WindowId) : (s.done m ws).window v = s.window v := rfl
@[simp] theorem State.done_slot (m : MasterId) (ws : Words) (j : SlotId) : (s.done m ws).slot j = s.slot j := rfl
@[simp] theorem State.done_master (m : MasterId) (ws : Words) (n' : MasterId) : (s.done m ws).master n' = s.master n' := rfl

/-! ## awaitWindow -/
@[simp] theorem State.awaitWindow_current (m : MasterId) (w : WindowId) (win : Window) : (s.awaitWindow m w win).current = s.current := rfl
@[simp] theorem State.awaitWindow_lines (m : MasterId) (w : WindowId) (win : Window) : (s.awaitWindow m w win).lines = s.lines := rfl
@[simp] theorem State.awaitWindow_shown (m : MasterId) (w : WindowId) (win : Window) : (s.awaitWindow m w win).shown = s.shown := rfl
@[simp] theorem State.awaitWindow_ort (m : MasterId) (w : WindowId) (win : Window) : (s.awaitWindow m w win).ort = s.ort := rfl
@[simp] theorem State.awaitWindow_faultQueue (m : MasterId) (w : WindowId) (win : Window) : (s.awaitWindow m w win).faultQueue = s.faultQueue := rfl
@[simp] theorem State.awaitWindow_mastership (m : MasterId) (w : WindowId) (win : Window) : (s.awaitWindow m w win).mastership = s.mastership := rfl
@[simp] theorem State.awaitWindow_slots (m : MasterId) (w : WindowId) (win : Window) : (s.awaitWindow m w win).slots = s.slots := rfl
@[simp] theorem State.awaitWindow_masters (m : MasterId) (w : WindowId) (win : Window) : (s.awaitWindow m w win).masters = s.masters := rfl
@[simp] theorem State.awaitWindow_strikeLimit (m : MasterId) (w : WindowId) (win : Window) : (s.awaitWindow m w win).strikeLimit = s.strikeLimit := rfl
@[simp] theorem State.awaitWindow_selection (m : MasterId) (w : WindowId) (win : Window) : (s.awaitWindow m w win).selection = s.selection := rfl
@[simp] theorem State.awaitWindow_queue (m : MasterId) (w : WindowId) (win : Window) : (s.awaitWindow m w win).queue = s.queue := rfl
@[simp] theorem State.awaitWindow_attention (m : MasterId) (w : WindowId) (win : Window) : (s.awaitWindow m w win).attention = s.attention := rfl
@[simp] theorem State.awaitWindow_pins (m : MasterId) (w : WindowId) (win : Window) : (s.awaitWindow m w win).pins = s.pins := rfl
@[simp] theorem State.awaitWindow_pending (m : MasterId) (w : WindowId) (win : Window) : (s.awaitWindow m w win).pending = s.pending := rfl
@[simp] theorem State.awaitWindow_slot (m : MasterId) (w : WindowId) (win : Window) (j : SlotId) : (s.awaitWindow m w win).slot j = s.slot j := rfl
@[simp] theorem State.awaitWindow_master (m : MasterId) (w : WindowId) (win : Window) (n' : MasterId) : (s.awaitWindow m w win).master n' = s.master n' := rfl

/-! ## undoWait -/
@[simp] theorem State.undoWait_current (m : MasterId) (w : WindowId) : (s.undoWait m w).current = s.current := rfl
@[simp] theorem State.undoWait_lines (m : MasterId) (w : WindowId) : (s.undoWait m w).lines = s.lines := rfl
@[simp] theorem State.undoWait_shown (m : MasterId) (w : WindowId) : (s.undoWait m w).shown = s.shown := rfl
@[simp] theorem State.undoWait_ort (m : MasterId) (w : WindowId) : (s.undoWait m w).ort = s.ort := rfl
@[simp] theorem State.undoWait_faultQueue (m : MasterId) (w : WindowId) : (s.undoWait m w).faultQueue = s.faultQueue := rfl
@[simp] theorem State.undoWait_mastership (m : MasterId) (w : WindowId) : (s.undoWait m w).mastership = s.mastership := rfl
@[simp] theorem State.undoWait_slots (m : MasterId) (w : WindowId) : (s.undoWait m w).slots = s.slots := rfl
@[simp] theorem State.undoWait_masters (m : MasterId) (w : WindowId) : (s.undoWait m w).masters = s.masters := rfl
@[simp] theorem State.undoWait_strikeLimit (m : MasterId) (w : WindowId) : (s.undoWait m w).strikeLimit = s.strikeLimit := rfl
@[simp] theorem State.undoWait_selection (m : MasterId) (w : WindowId) : (s.undoWait m w).selection = s.selection := rfl
@[simp] theorem State.undoWait_queue (m : MasterId) (w : WindowId) : (s.undoWait m w).queue = s.queue := rfl
@[simp] theorem State.undoWait_attention (m : MasterId) (w : WindowId) : (s.undoWait m w).attention = s.attention := rfl
@[simp] theorem State.undoWait_pins (m : MasterId) (w : WindowId) : (s.undoWait m w).pins = s.pins := rfl
@[simp] theorem State.undoWait_pending (m : MasterId) (w : WindowId) : (s.undoWait m w).pending = s.pending := rfl
@[simp] theorem State.undoWait_slot (m : MasterId) (w : WindowId) (j : SlotId) : (s.undoWait m w).slot j = s.slot j := rfl
@[simp] theorem State.undoWait_master (m : MasterId) (w : WindowId) (n' : MasterId) : (s.undoWait m w).master n' = s.master n' := rfl

/-! ## endTenure -/
@[simp] theorem State.endTenure_windows : (s.endTenure).windows = s.windows := rfl
@[simp] theorem State.endTenure_current : (s.endTenure).current = s.current := rfl
@[simp] theorem State.endTenure_ort : (s.endTenure).ort = s.ort := rfl
@[simp] theorem State.endTenure_faultQueue : (s.endTenure).faultQueue = s.faultQueue := rfl
@[simp] theorem State.endTenure_slots : (s.endTenure).slots = s.slots := rfl
@[simp] theorem State.endTenure_masters : (s.endTenure).masters = s.masters := rfl
@[simp] theorem State.endTenure_strikeLimit : (s.endTenure).strikeLimit = s.strikeLimit := rfl
@[simp] theorem State.endTenure_selection : (s.endTenure).selection = s.selection := rfl
@[simp] theorem State.endTenure_contexts : (s.endTenure).contexts = s.contexts := rfl
@[simp] theorem State.endTenure_queue : (s.endTenure).queue = s.queue := rfl
@[simp] theorem State.endTenure_attention : (s.endTenure).attention = s.attention := rfl
@[simp] theorem State.endTenure_pins : (s.endTenure).pins = s.pins := rfl
@[simp] theorem State.endTenure_pending : (s.endTenure).pending = s.pending := rfl
@[simp] theorem State.endTenure_window (v : WindowId) : (s.endTenure).window v = s.window v := rfl
@[simp] theorem State.endTenure_context (n' : MasterId) : (s.endTenure).context n' = s.context n' := rfl
@[simp] theorem State.endTenure_slot (j : SlotId) : (s.endTenure).slot j = s.slot j := rfl
@[simp] theorem State.endTenure_master (n' : MasterId) : (s.endTenure).master n' = s.master n' := rfl

/-! ## movePrs -/
@[simp] theorem State.movePrs_windows (k : SlotId) (b : Bool) : (s.movePrs k b).windows = s.windows := rfl
@[simp] theorem State.movePrs_current (k : SlotId) (b : Bool) : (s.movePrs k b).current = s.current := rfl
@[simp] theorem State.movePrs_lines (k : SlotId) (b : Bool) : (s.movePrs k b).lines = s.lines := rfl
@[simp] theorem State.movePrs_shown (k : SlotId) (b : Bool) : (s.movePrs k b).shown = s.shown := rfl
@[simp] theorem State.movePrs_ort (k : SlotId) (b : Bool) : (s.movePrs k b).ort = s.ort := rfl
@[simp] theorem State.movePrs_faultQueue (k : SlotId) (b : Bool) : (s.movePrs k b).faultQueue = s.faultQueue := rfl
@[simp] theorem State.movePrs_mastership (k : SlotId) (b : Bool) : (s.movePrs k b).mastership = s.mastership := rfl
@[simp] theorem State.movePrs_slots (k : SlotId) (b : Bool) : (s.movePrs k b).slots = s.slots := rfl
@[simp] theorem State.movePrs_masters (k : SlotId) (b : Bool) : (s.movePrs k b).masters = s.masters := rfl
@[simp] theorem State.movePrs_strikeLimit (k : SlotId) (b : Bool) : (s.movePrs k b).strikeLimit = s.strikeLimit := rfl
@[simp] theorem State.movePrs_selection (k : SlotId) (b : Bool) : (s.movePrs k b).selection = s.selection := rfl
@[simp] theorem State.movePrs_contexts (k : SlotId) (b : Bool) : (s.movePrs k b).contexts = s.contexts := rfl
@[simp] theorem State.movePrs_queue (k : SlotId) (b : Bool) : (s.movePrs k b).queue = s.queue := rfl
@[simp] theorem State.movePrs_attention (k : SlotId) (b : Bool) : (s.movePrs k b).attention = s.attention := rfl
@[simp] theorem State.movePrs_pending (k : SlotId) (b : Bool) : (s.movePrs k b).pending = s.pending := rfl
@[simp] theorem State.movePrs_window (k : SlotId) (b : Bool) (v : WindowId) : (s.movePrs k b).window v = s.window v := rfl
@[simp] theorem State.movePrs_context (k : SlotId) (b : Bool) (n' : MasterId) : (s.movePrs k b).context n' = s.context n' := rfl
@[simp] theorem State.movePrs_slot (k : SlotId) (b : Bool) (j : SlotId) : (s.movePrs k b).slot j = s.slot j := rfl
@[simp] theorem State.movePrs_master (k : SlotId) (b : Bool) (n' : MasterId) : (s.movePrs k b).master n' = s.master n' := rfl

/-! ## moveMode -/
@[simp] theorem State.moveMode_windows (k : SlotId) (md : Mode) : (s.moveMode k md).windows = s.windows := rfl
@[simp] theorem State.moveMode_current (k : SlotId) (md : Mode) : (s.moveMode k md).current = s.current := rfl
@[simp] theorem State.moveMode_lines (k : SlotId) (md : Mode) : (s.moveMode k md).lines = s.lines := rfl
@[simp] theorem State.moveMode_shown (k : SlotId) (md : Mode) : (s.moveMode k md).shown = s.shown := rfl
@[simp] theorem State.moveMode_ort (k : SlotId) (md : Mode) : (s.moveMode k md).ort = s.ort := rfl
@[simp] theorem State.moveMode_faultQueue (k : SlotId) (md : Mode) : (s.moveMode k md).faultQueue = s.faultQueue := rfl
@[simp] theorem State.moveMode_mastership (k : SlotId) (md : Mode) : (s.moveMode k md).mastership = s.mastership := rfl
@[simp] theorem State.moveMode_slots (k : SlotId) (md : Mode) : (s.moveMode k md).slots = s.slots := rfl
@[simp] theorem State.moveMode_masters (k : SlotId) (md : Mode) : (s.moveMode k md).masters = s.masters := rfl
@[simp] theorem State.moveMode_strikeLimit (k : SlotId) (md : Mode) : (s.moveMode k md).strikeLimit = s.strikeLimit := rfl
@[simp] theorem State.moveMode_selection (k : SlotId) (md : Mode) : (s.moveMode k md).selection = s.selection := rfl
@[simp] theorem State.moveMode_contexts (k : SlotId) (md : Mode) : (s.moveMode k md).contexts = s.contexts := rfl
@[simp] theorem State.moveMode_queue (k : SlotId) (md : Mode) : (s.moveMode k md).queue = s.queue := rfl
@[simp] theorem State.moveMode_attention (k : SlotId) (md : Mode) : (s.moveMode k md).attention = s.attention := rfl
@[simp] theorem State.moveMode_pending (k : SlotId) (md : Mode) : (s.moveMode k md).pending = s.pending := rfl
@[simp] theorem State.moveMode_window (k : SlotId) (md : Mode) (v : WindowId) : (s.moveMode k md).window v = s.window v := rfl
@[simp] theorem State.moveMode_context (k : SlotId) (md : Mode) (n' : MasterId) : (s.moveMode k md).context n' = s.context n' := rfl
@[simp] theorem State.moveMode_slot (k : SlotId) (md : Mode) (j : SlotId) : (s.moveMode k md).slot j = s.slot j := rfl
@[simp] theorem State.moveMode_master (k : SlotId) (md : Mode) (n' : MasterId) : (s.moveMode k md).master n' = s.master n' := rfl

/-! ## tick -/
@[simp] theorem State.tick_windows : (s.tick).windows = s.windows := rfl
@[simp] theorem State.tick_lines : (s.tick).lines = s.lines := rfl
@[simp] theorem State.tick_shown : (s.tick).shown = s.shown := rfl
@[simp] theorem State.tick_faultQueue : (s.tick).faultQueue = s.faultQueue := rfl
@[simp] theorem State.tick_mastership : (s.tick).mastership = s.mastership := rfl
@[simp] theorem State.tick_slots : (s.tick).slots = s.slots := rfl
@[simp] theorem State.tick_masters : (s.tick).masters = s.masters := rfl
@[simp] theorem State.tick_strikeLimit : (s.tick).strikeLimit = s.strikeLimit := rfl
@[simp] theorem State.tick_selection : (s.tick).selection = s.selection := rfl
@[simp] theorem State.tick_contexts : (s.tick).contexts = s.contexts := rfl
@[simp] theorem State.tick_queue : (s.tick).queue = s.queue := rfl
@[simp] theorem State.tick_attention : (s.tick).attention = s.attention := rfl
@[simp] theorem State.tick_pins : (s.tick).pins = s.pins := rfl
@[simp] theorem State.tick_pending : (s.tick).pending = s.pending := rfl
@[simp] theorem State.tick_window (v : WindowId) : (s.tick).window v = s.window v := rfl
@[simp] theorem State.tick_context (n' : MasterId) : (s.tick).context n' = s.context n' := rfl
@[simp] theorem State.tick_slot (j : SlotId) : (s.tick).slot j = s.slot j := rfl
@[simp] theorem State.tick_master (n' : MasterId) : (s.tick).master n' = s.master n' := rfl

end Sys2Proof.Machine
end

