-- ==== Sys2Proof/Laws/Ops.lean ====
section
/-!
SUPPORT. What each shared operation can do, said once: the fields it leaves alone (one simp lemma per field), and what
it makes of the records it reaches.
-/
namespace Sys2Proof.Machine

variable (s : State)

/-! ## strike -/

@[simp] theorem State.strike_current (w : WindowId) : (s.strike w).current = s.current := by
  unfold State.strike; dsimp only; split
  · split <;> rfl
  · rfl
@[simp] theorem State.strike_lines (w : WindowId) : (s.strike w).lines = s.lines := by
  unfold State.strike; dsimp only; split
  · split <;> rfl
  · rfl
@[simp] theorem State.strike_shown (w : WindowId) : (s.strike w).shown = s.shown := by
  unfold State.strike; dsimp only; split
  · split <;> rfl
  · rfl
@[simp] theorem State.strike_ort (w : WindowId) : (s.strike w).ort = s.ort := by
  unfold State.strike; dsimp only; split
  · split <;> rfl
  · rfl
@[simp] theorem State.strike_faultQueue (w : WindowId) : (s.strike w).faultQueue = s.faultQueue := by
  unfold State.strike; dsimp only; split
  · split <;> rfl
  · rfl
@[simp] theorem State.strike_mastership (w : WindowId) : (s.strike w).mastership = s.mastership := by
  unfold State.strike; dsimp only; split
  · split <;> rfl
  · rfl
@[simp] theorem State.strike_slots (w : WindowId) : (s.strike w).slots = s.slots := by
  unfold State.strike; dsimp only; split
  · split <;> rfl
  · rfl
@[simp] theorem State.strike_masters (w : WindowId) : (s.strike w).masters = s.masters := by
  unfold State.strike; dsimp only; split
  · split <;> rfl
  · rfl
@[simp] theorem State.strike_strikeLimit (w : WindowId) : (s.strike w).strikeLimit = s.strikeLimit := by
  unfold State.strike; dsimp only; split
  · split <;> rfl
  · rfl
@[simp] theorem State.strike_selection (w : WindowId) : (s.strike w).selection = s.selection := by
  unfold State.strike; dsimp only; split
  · split <;> rfl
  · rfl
@[simp] theorem State.strike_contexts (w : WindowId) : (s.strike w).contexts = s.contexts := by
  unfold State.strike; dsimp only; split
  · split <;> rfl
  · rfl
@[simp] theorem State.strike_queue (w : WindowId) : (s.strike w).queue = s.queue := by
  unfold State.strike; dsimp only; split
  · split <;> rfl
  · rfl
@[simp] theorem State.strike_pins (w : WindowId) : (s.strike w).pins = s.pins := by
  unfold State.strike; dsimp only; split
  · split <;> rfl
  · rfl
@[simp] theorem State.strike_pending (w : WindowId) : (s.strike w).pending = s.pending := by
  unfold State.strike; dsimp only; split
  · split <;> rfl
  · rfl
@[simp] theorem State.strike_context (w : WindowId) (n' : MasterId) : (s.strike w).context n' = s.context n' := by
  simp only [State.context, State.strike_contexts]
@[simp] theorem State.strike_slot (w : WindowId) (j : SlotId) : (s.strike w).slot j = s.slot j := by
  simp only [State.slot, State.strike_slots]
@[simp] theorem State.strike_master (w : WindowId) (n' : MasterId) : (s.strike w).master n' = s.master n' := by
  simp only [State.master, State.strike_masters]

/-! ## strikeClear -/

@[simp] theorem State.strikeClear_current (w : WindowId) : (s.strikeClear w).current = s.current := by
  unfold State.strikeClear; dsimp only; split <;> rfl
@[simp] theorem State.strikeClear_lines (w : WindowId) : (s.strikeClear w).lines = s.lines := by
  unfold State.strikeClear; dsimp only; split <;> rfl
@[simp] theorem State.strikeClear_shown (w : WindowId) : (s.strikeClear w).shown = s.shown := by
  unfold State.strikeClear; dsimp only; split <;> rfl
@[simp] theorem State.strikeClear_ort (w : WindowId) : (s.strikeClear w).ort = s.ort := by
  unfold State.strikeClear; dsimp only; split <;> rfl
@[simp] theorem State.strikeClear_faultQueue (w : WindowId) : (s.strikeClear w).faultQueue = s.faultQueue := by
  unfold State.strikeClear; dsimp only; split <;> rfl
@[simp] theorem State.strikeClear_mastership (w : WindowId) : (s.strikeClear w).mastership = s.mastership := by
  unfold State.strikeClear; dsimp only; split <;> rfl
@[simp] theorem State.strikeClear_slots (w : WindowId) : (s.strikeClear w).slots = s.slots := by
  unfold State.strikeClear; dsimp only; split <;> rfl
@[simp] theorem State.strikeClear_masters (w : WindowId) : (s.strikeClear w).masters = s.masters := by
  unfold State.strikeClear; dsimp only; split <;> rfl
@[simp] theorem State.strikeClear_strikeLimit (w : WindowId) : (s.strikeClear w).strikeLimit = s.strikeLimit := by
  unfold State.strikeClear; dsimp only; split <;> rfl
@[simp] theorem State.strikeClear_selection (w : WindowId) : (s.strikeClear w).selection = s.selection := by
  unfold State.strikeClear; dsimp only; split <;> rfl
@[simp] theorem State.strikeClear_contexts (w : WindowId) : (s.strikeClear w).contexts = s.contexts := by
  unfold State.strikeClear; dsimp only; split <;> rfl
@[simp] theorem State.strikeClear_queue (w : WindowId) : (s.strikeClear w).queue = s.queue := by
  unfold State.strikeClear; dsimp only; split <;> rfl
@[simp] theorem State.strikeClear_attention (w : WindowId) : (s.strikeClear w).attention = s.attention := by
  unfold State.strikeClear; dsimp only; split <;> rfl
@[simp] theorem State.strikeClear_pins (w : WindowId) : (s.strikeClear w).pins = s.pins := by
  unfold State.strikeClear; dsimp only; split <;> rfl
@[simp] theorem State.strikeClear_pending (w : WindowId) : (s.strikeClear w).pending = s.pending := by
  unfold State.strikeClear; dsimp only; split <;> rfl
@[simp] theorem State.strikeClear_context (w : WindowId) (n' : MasterId) : (s.strikeClear w).context n' = s.context n' := by
  simp only [State.context, State.strikeClear_contexts]
@[simp] theorem State.strikeClear_slot (w : WindowId) (j : SlotId) : (s.strikeClear w).slot j = s.slot j := by
  simp only [State.slot, State.strikeClear_slots]
@[simp] theorem State.strikeClear_master (w : WindowId) (n' : MasterId) : (s.strikeClear w).master n' = s.master n' := by
  simp only [State.master, State.strikeClear_masters]

/-! ## completeWaiter -/

@[simp] theorem State.completeWaiter_windows (o : Option MasterId) (c : ResultCode) (ws : Words) : (s.completeWaiter o c ws).windows = s.windows := by
  unfold State.completeWaiter; split <;> rfl
@[simp] theorem State.completeWaiter_current (o : Option MasterId) (c : ResultCode) (ws : Words) : (s.completeWaiter o c ws).current = s.current := by
  unfold State.completeWaiter; split <;> rfl
@[simp] theorem State.completeWaiter_lines (o : Option MasterId) (c : ResultCode) (ws : Words) : (s.completeWaiter o c ws).lines = s.lines := by
  unfold State.completeWaiter; split <;> rfl
@[simp] theorem State.completeWaiter_shown (o : Option MasterId) (c : ResultCode) (ws : Words) : (s.completeWaiter o c ws).shown = s.shown := by
  unfold State.completeWaiter; split <;> rfl
@[simp] theorem State.completeWaiter_ort (o : Option MasterId) (c : ResultCode) (ws : Words) : (s.completeWaiter o c ws).ort = s.ort := by
  unfold State.completeWaiter; split <;> rfl
@[simp] theorem State.completeWaiter_faultQueue (o : Option MasterId) (c : ResultCode) (ws : Words) : (s.completeWaiter o c ws).faultQueue = s.faultQueue := by
  unfold State.completeWaiter; split <;> rfl
@[simp] theorem State.completeWaiter_mastership (o : Option MasterId) (c : ResultCode) (ws : Words) : (s.completeWaiter o c ws).mastership = s.mastership := by
  unfold State.completeWaiter; split <;> rfl
@[simp] theorem State.completeWaiter_slots (o : Option MasterId) (c : ResultCode) (ws : Words) : (s.completeWaiter o c ws).slots = s.slots := by
  unfold State.completeWaiter; split <;> rfl
@[simp] theorem State.completeWaiter_masters (o : Option MasterId) (c : ResultCode) (ws : Words) : (s.completeWaiter o c ws).masters = s.masters := by
  unfold State.completeWaiter; split <;> rfl
@[simp] theorem State.completeWaiter_strikeLimit (o : Option MasterId) (c : ResultCode) (ws : Words) : (s.completeWaiter o c ws).strikeLimit = s.strikeLimit := by
  unfold State.completeWaiter; split <;> rfl
@[simp] theorem State.completeWaiter_selection (o : Option MasterId) (c : ResultCode) (ws : Words) : (s.completeWaiter o c ws).selection = s.selection := by
  unfold State.completeWaiter; split <;> rfl
@[simp] theorem State.completeWaiter_queue (o : Option MasterId) (c : ResultCode) (ws : Words) : (s.completeWaiter o c ws).queue = s.queue := by
  unfold State.completeWaiter; split <;> rfl
@[simp] theorem State.completeWaiter_attention (o : Option MasterId) (c : ResultCode) (ws : Words) : (s.completeWaiter o c ws).attention = s.attention := by
  unfold State.completeWaiter; split <;> rfl
@[simp] theorem State.completeWaiter_pins (o : Option MasterId) (c : ResultCode) (ws : Words) : (s.completeWaiter o c ws).pins = s.pins := by
  unfold State.completeWaiter; split <;> rfl
@[simp] theorem State.completeWaiter_pending (o : Option MasterId) (c : ResultCode) (ws : Words) : (s.completeWaiter o c ws).pending = s.pending := by
  unfold State.completeWaiter; split <;> rfl
@[simp] theorem State.completeWaiter_window (o : Option MasterId) (c : ResultCode) (ws : Words) (v : WindowId) : (s.completeWaiter o c ws).window v = s.window v := by
  simp only [State.window, State.completeWaiter_windows]
@[simp] theorem State.completeWaiter_slot (o : Option MasterId) (c : ResultCode) (ws : Words) (j : SlotId) : (s.completeWaiter o c ws).slot j = s.slot j := by
  simp only [State.slot, State.completeWaiter_slots]
@[simp] theorem State.completeWaiter_master (o : Option MasterId) (c : ResultCode) (ws : Words) (n' : MasterId) : (s.completeWaiter o c ws).master n' = s.master n' := by
  simp only [State.master, State.completeWaiter_masters]

/-! ## applyChange -/

@[simp] theorem State.applyChange_current (w : WindowId) : (s.applyChange w).current = s.current := by
  unfold State.applyChange; dsimp only; split <;> simp
@[simp] theorem State.applyChange_lines (w : WindowId) : (s.applyChange w).lines = s.lines := by
  unfold State.applyChange; dsimp only; split <;> simp
@[simp] theorem State.applyChange_shown (w : WindowId) : (s.applyChange w).shown = s.shown := by
  unfold State.applyChange; dsimp only; split <;> simp
@[simp] theorem State.applyChange_ort (w : WindowId) : (s.applyChange w).ort = s.ort := by
  unfold State.applyChange; dsimp only; split <;> simp
@[simp] theorem State.applyChange_faultQueue (w : WindowId) : (s.applyChange w).faultQueue = s.faultQueue := by
  unfold State.applyChange; dsimp only; split <;> simp
@[simp] theorem State.applyChange_mastership (w : WindowId) : (s.applyChange w).mastership = s.mastership := by
  unfold State.applyChange; dsimp only; split <;> simp
@[simp] theorem State.applyChange_slots (w : WindowId) : (s.applyChange w).slots = s.slots := by
  unfold State.applyChange; dsimp only; split <;> simp
@[simp] theorem State.applyChange_masters (w : WindowId) : (s.applyChange w).masters = s.masters := by
  unfold State.applyChange; dsimp only; split <;> simp
@[simp] theorem State.applyChange_strikeLimit (w : WindowId) : (s.applyChange w).strikeLimit = s.strikeLimit := by
  unfold State.applyChange; dsimp only; split <;> simp
@[simp] theorem State.applyChange_selection (w : WindowId) : (s.applyChange w).selection = s.selection := by
  unfold State.applyChange; dsimp only; split <;> simp
@[simp] theorem State.applyChange_queue (w : WindowId) : (s.applyChange w).queue = s.queue := by
  unfold State.applyChange; dsimp only; split <;> simp
@[simp] theorem State.applyChange_attention (w : WindowId) : (s.applyChange w).attention = s.attention := by
  unfold State.applyChange; dsimp only; split <;> simp
@[simp] theorem State.applyChange_pins (w : WindowId) : (s.applyChange w).pins = s.pins := by
  unfold State.applyChange; dsimp only; split <;> simp
@[simp] theorem State.applyChange_pending (w : WindowId) : (s.applyChange w).pending = s.pending := by
  unfold State.applyChange; dsimp only; split <;> simp
@[simp] theorem State.applyChange_slot (w : WindowId) (j : SlotId) : (s.applyChange w).slot j = s.slot j := by
  simp only [State.slot, State.applyChange_slots]
@[simp] theorem State.applyChange_master (w : WindowId) (n' : MasterId) : (s.applyChange w).master n' = s.master n' := by
  simp only [State.master, State.applyChange_masters]

/-! ## becomeFree -/

@[simp] theorem State.becomeFree_current (w : WindowId) : (s.becomeFree w).current = s.current := by
  simp [State.becomeFree]
@[simp] theorem State.becomeFree_lines (w : WindowId) : (s.becomeFree w).lines = s.lines := by
  simp [State.becomeFree]
@[simp] theorem State.becomeFree_shown (w : WindowId) : (s.becomeFree w).shown = s.shown := by
  simp [State.becomeFree]
@[simp] theorem State.becomeFree_ort (w : WindowId) : (s.becomeFree w).ort = s.ort := by
  simp [State.becomeFree]
@[simp] theorem State.becomeFree_faultQueue (w : WindowId) : (s.becomeFree w).faultQueue = s.faultQueue := by
  simp [State.becomeFree]
@[simp] theorem State.becomeFree_mastership (w : WindowId) : (s.becomeFree w).mastership = s.mastership := by
  simp [State.becomeFree]
@[simp] theorem State.becomeFree_slots (w : WindowId) : (s.becomeFree w).slots = s.slots := by
  simp [State.becomeFree]
@[simp] theorem State.becomeFree_masters (w : WindowId) : (s.becomeFree w).masters = s.masters := by
  simp [State.becomeFree]
@[simp] theorem State.becomeFree_strikeLimit (w : WindowId) : (s.becomeFree w).strikeLimit = s.strikeLimit := by
  simp [State.becomeFree]
@[simp] theorem State.becomeFree_selection (w : WindowId) : (s.becomeFree w).selection = s.selection := by
  simp [State.becomeFree]
@[simp] theorem State.becomeFree_queue (w : WindowId) : (s.becomeFree w).queue = s.queue := by
  simp [State.becomeFree]
@[simp] theorem State.becomeFree_attention (w : WindowId) : (s.becomeFree w).attention = s.attention := by
  simp [State.becomeFree]
@[simp] theorem State.becomeFree_pins (w : WindowId) : (s.becomeFree w).pins = s.pins := by
  simp [State.becomeFree]
@[simp] theorem State.becomeFree_pending (w : WindowId) : (s.becomeFree w).pending = s.pending := by
  simp [State.becomeFree]
@[simp] theorem State.becomeFree_slot (w : WindowId) (j : SlotId) : (s.becomeFree w).slot j = s.slot j := by
  simp only [State.slot, State.becomeFree_slots]
@[simp] theorem State.becomeFree_master (w : WindowId) (n' : MasterId) : (s.becomeFree w).master n' = s.master n' := by
  simp only [State.master, State.becomeFree_masters]

/-! ## drainCheck -/

@[simp] theorem State.drainCheck_current (w : WindowId) : (s.drainCheck w).current = s.current := by
  unfold State.drainCheck; split
  · split <;> simp
  · rfl
@[simp] theorem State.drainCheck_lines (w : WindowId) : (s.drainCheck w).lines = s.lines := by
  unfold State.drainCheck; split
  · split <;> simp
  · rfl
@[simp] theorem State.drainCheck_shown (w : WindowId) : (s.drainCheck w).shown = s.shown := by
  unfold State.drainCheck; split
  · split <;> simp
  · rfl
@[simp] theorem State.drainCheck_ort (w : WindowId) : (s.drainCheck w).ort = s.ort := by
  unfold State.drainCheck; split
  · split <;> simp
  · rfl
@[simp] theorem State.drainCheck_faultQueue (w : WindowId) : (s.drainCheck w).faultQueue = s.faultQueue := by
  unfold State.drainCheck; split
  · split <;> simp
  · rfl
@[simp] theorem State.drainCheck_mastership (w : WindowId) : (s.drainCheck w).mastership = s.mastership := by
  unfold State.drainCheck; split
  · split <;> simp
  · rfl
@[simp] theorem State.drainCheck_slots (w : WindowId) : (s.drainCheck w).slots = s.slots := by
  unfold State.drainCheck; split
  · split <;> simp
  · rfl
@[simp] theorem State.drainCheck_masters (w : WindowId) : (s.drainCheck w).masters = s.masters := by
  unfold State.drainCheck; split
  · split <;> simp
  · rfl
@[simp] theorem State.drainCheck_strikeLimit (w : WindowId) : (s.drainCheck w).strikeLimit = s.strikeLimit := by
  unfold State.drainCheck; split
  · split <;> simp
  · rfl
@[simp] theorem State.drainCheck_selection (w : WindowId) : (s.drainCheck w).selection = s.selection := by
  unfold State.drainCheck; split
  · split <;> simp
  · rfl
@[simp] theorem State.drainCheck_queue (w : WindowId) : (s.drainCheck w).queue = s.queue := by
  unfold State.drainCheck; split
  · split <;> simp
  · rfl
@[simp] theorem State.drainCheck_attention (w : WindowId) : (s.drainCheck w).attention = s.attention := by
  unfold State.drainCheck; split
  · split <;> simp
  · rfl
@[simp] theorem State.drainCheck_pins (w : WindowId) : (s.drainCheck w).pins = s.pins := by
  unfold State.drainCheck; split
  · split <;> simp
  · rfl
@[simp] theorem State.drainCheck_pending (w : WindowId) : (s.drainCheck w).pending = s.pending := by
  unfold State.drainCheck; split
  · split <;> simp
  · rfl
@[simp] theorem State.drainCheck_slot (w : WindowId) (j : SlotId) : (s.drainCheck w).slot j = s.slot j := by
  simp only [State.slot, State.drainCheck_slots]
@[simp] theorem State.drainCheck_master (w : WindowId) (n' : MasterId) : (s.drainCheck w).master n' = s.master n' := by
  simp only [State.master, State.drainCheck_masters]

/-! ## removeEntry -/

@[simp] theorem State.removeEntry_current (e : OrtEntry) : (s.removeEntry e).current = s.current := by
  simp [State.removeEntry]
@[simp] theorem State.removeEntry_lines (e : OrtEntry) : (s.removeEntry e).lines = s.lines := by
  simp [State.removeEntry]
@[simp] theorem State.removeEntry_shown (e : OrtEntry) : (s.removeEntry e).shown = s.shown := by
  simp [State.removeEntry]
@[simp] theorem State.removeEntry_mastership (e : OrtEntry) : (s.removeEntry e).mastership = s.mastership := by
  simp [State.removeEntry]
@[simp] theorem State.removeEntry_slots (e : OrtEntry) : (s.removeEntry e).slots = s.slots := by
  simp [State.removeEntry]
@[simp] theorem State.removeEntry_masters (e : OrtEntry) : (s.removeEntry e).masters = s.masters := by
  simp [State.removeEntry]
@[simp] theorem State.removeEntry_strikeLimit (e : OrtEntry) : (s.removeEntry e).strikeLimit = s.strikeLimit := by
  simp [State.removeEntry]
@[simp] theorem State.removeEntry_selection (e : OrtEntry) : (s.removeEntry e).selection = s.selection := by
  simp [State.removeEntry]
@[simp] theorem State.removeEntry_queue (e : OrtEntry) : (s.removeEntry e).queue = s.queue := by
  simp [State.removeEntry]
@[simp] theorem State.removeEntry_attention (e : OrtEntry) : (s.removeEntry e).attention = s.attention := by
  simp [State.removeEntry]
@[simp] theorem State.removeEntry_pins (e : OrtEntry) : (s.removeEntry e).pins = s.pins := by
  simp [State.removeEntry]
@[simp] theorem State.removeEntry_pending (e : OrtEntry) : (s.removeEntry e).pending = s.pending := by
  simp [State.removeEntry]
@[simp] theorem State.removeEntry_slot (e : OrtEntry) (j : SlotId) : (s.removeEntry e).slot j = s.slot j := by
  simp only [State.slot, State.removeEntry_slots]
@[simp] theorem State.removeEntry_master (e : OrtEntry) (n' : MasterId) : (s.removeEntry e).master n' = s.master n' := by
  simp only [State.master, State.removeEntry_masters]

/-! ## assertRequest -/

@[simp] theorem State.assertRequest_windows : s.assertRequest.windows = s.windows := by
  unfold State.assertRequest; split <;> rfl
@[simp] theorem State.assertRequest_current : s.assertRequest.current = s.current := by
  unfold State.assertRequest; split <;> rfl
@[simp] theorem State.assertRequest_lines : s.assertRequest.lines = s.lines := by
  unfold State.assertRequest; split <;> rfl
@[simp] theorem State.assertRequest_shown : s.assertRequest.shown = s.shown := by
  unfold State.assertRequest; split <;> rfl
@[simp] theorem State.assertRequest_ort : s.assertRequest.ort = s.ort := by
  unfold State.assertRequest; split <;> rfl
@[simp] theorem State.assertRequest_faultQueue : s.assertRequest.faultQueue = s.faultQueue := by
  unfold State.assertRequest; split <;> rfl
@[simp] theorem State.assertRequest_slots : s.assertRequest.slots = s.slots := by
  unfold State.assertRequest; split <;> rfl
@[simp] theorem State.assertRequest_masters : s.assertRequest.masters = s.masters := by
  unfold State.assertRequest; split <;> rfl
@[simp] theorem State.assertRequest_strikeLimit : s.assertRequest.strikeLimit = s.strikeLimit := by
  unfold State.assertRequest; split <;> rfl
@[simp] theorem State.assertRequest_selection : s.assertRequest.selection = s.selection := by
  unfold State.assertRequest; split <;> rfl
@[simp] theorem State.assertRequest_contexts : s.assertRequest.contexts = s.contexts := by
  unfold State.assertRequest; split <;> rfl
@[simp] theorem State.assertRequest_queue : s.assertRequest.queue = s.queue := by
  unfold State.assertRequest; split <;> rfl
@[simp] theorem State.assertRequest_attention : s.assertRequest.attention = s.attention := by
  unfold State.assertRequest; split <;> rfl
@[simp] theorem State.assertRequest_pins : s.assertRequest.pins = s.pins := by
  unfold State.assertRequest; split <;> rfl
@[simp] theorem State.assertRequest_pending : s.assertRequest.pending = s.pending := by
  unfold State.assertRequest; split <;> rfl
@[simp] theorem State.assertRequest_window (v : WindowId) : s.assertRequest.window v = s.window v := by
  simp only [State.window, State.assertRequest_windows]
@[simp] theorem State.assertRequest_context (n' : MasterId) : s.assertRequest.context n' = s.context n' := by
  simp only [State.context, State.assertRequest_contexts]
@[simp] theorem State.assertRequest_slot (j : SlotId) : s.assertRequest.slot j = s.slot j := by
  simp only [State.slot, State.assertRequest_slots]
@[simp] theorem State.assertRequest_master (n' : MasterId) : s.assertRequest.master n' = s.master n' := by
  simp only [State.master, State.assertRequest_masters]

/-! ## releaseRequest -/

@[simp] theorem State.releaseRequest_windows : s.releaseRequest.windows = s.windows := by
  unfold State.releaseRequest; split <;> rfl
@[simp] theorem State.releaseRequest_current : s.releaseRequest.current = s.current := by
  unfold State.releaseRequest; split <;> rfl
@[simp] theorem State.releaseRequest_lines : s.releaseRequest.lines = s.lines := by
  unfold State.releaseRequest; split <;> rfl
@[simp] theorem State.releaseRequest_shown : s.releaseRequest.shown = s.shown := by
  unfold State.releaseRequest; split <;> rfl
@[simp] theorem State.releaseRequest_ort : s.releaseRequest.ort = s.ort := by
  unfold State.releaseRequest; split <;> rfl
@[simp] theorem State.releaseRequest_faultQueue : s.releaseRequest.faultQueue = s.faultQueue := by
  unfold State.releaseRequest; split <;> rfl
@[simp] theorem State.releaseRequest_slots : s.releaseRequest.slots = s.slots := by
  unfold State.releaseRequest; split <;> rfl
@[simp] theorem State.releaseRequest_masters : s.releaseRequest.masters = s.masters := by
  unfold State.releaseRequest; split <;> rfl
@[simp] theorem State.releaseRequest_strikeLimit : s.releaseRequest.strikeLimit = s.strikeLimit := by
  unfold State.releaseRequest; split <;> rfl
@[simp] theorem State.releaseRequest_selection : s.releaseRequest.selection = s.selection := by
  unfold State.releaseRequest; split <;> rfl
@[simp] theorem State.releaseRequest_contexts : s.releaseRequest.contexts = s.contexts := by
  unfold State.releaseRequest; split <;> rfl
@[simp] theorem State.releaseRequest_queue : s.releaseRequest.queue = s.queue := by
  unfold State.releaseRequest; split <;> rfl
@[simp] theorem State.releaseRequest_attention : s.releaseRequest.attention = s.attention := by
  unfold State.releaseRequest; split <;> rfl
@[simp] theorem State.releaseRequest_pins : s.releaseRequest.pins = s.pins := by
  unfold State.releaseRequest; split <;> rfl
@[simp] theorem State.releaseRequest_pending : s.releaseRequest.pending = s.pending := by
  unfold State.releaseRequest; split <;> rfl
@[simp] theorem State.releaseRequest_window (v : WindowId) : s.releaseRequest.window v = s.window v := by
  simp only [State.window, State.releaseRequest_windows]
@[simp] theorem State.releaseRequest_context (n' : MasterId) : s.releaseRequest.context n' = s.context n' := by
  simp only [State.context, State.releaseRequest_contexts]
@[simp] theorem State.releaseRequest_slot (j : SlotId) : s.releaseRequest.slot j = s.slot j := by
  simp only [State.slot, State.releaseRequest_slots]
@[simp] theorem State.releaseRequest_master (n' : MasterId) : s.releaseRequest.master n' = s.master n' := by
  simp only [State.master, State.releaseRequest_masters]

/-! ## endCycle -/

@[simp] theorem State.endCycle_ort (c : CurrentCycle) (a : AstLines) : (s.endCycle c a).ort = s.ort := by
  simp [State.endCycle]
@[simp] theorem State.endCycle_faultQueue (c : CurrentCycle) (a : AstLines) : (s.endCycle c a).faultQueue = s.faultQueue := by
  simp [State.endCycle]
@[simp] theorem State.endCycle_mastership (c : CurrentCycle) (a : AstLines) : (s.endCycle c a).mastership = s.mastership := by
  simp [State.endCycle]
@[simp] theorem State.endCycle_slots (c : CurrentCycle) (a : AstLines) : (s.endCycle c a).slots = s.slots := by
  simp [State.endCycle]
@[simp] theorem State.endCycle_masters (c : CurrentCycle) (a : AstLines) : (s.endCycle c a).masters = s.masters := by
  simp [State.endCycle]
@[simp] theorem State.endCycle_strikeLimit (c : CurrentCycle) (a : AstLines) : (s.endCycle c a).strikeLimit = s.strikeLimit := by
  simp [State.endCycle]
@[simp] theorem State.endCycle_selection (c : CurrentCycle) (a : AstLines) : (s.endCycle c a).selection = s.selection := by
  simp [State.endCycle]
@[simp] theorem State.endCycle_queue (c : CurrentCycle) (a : AstLines) : (s.endCycle c a).queue = s.queue := by
  simp [State.endCycle]
@[simp] theorem State.endCycle_attention (c : CurrentCycle) (a : AstLines) : (s.endCycle c a).attention = s.attention := by
  simp [State.endCycle]
@[simp] theorem State.endCycle_pins (c : CurrentCycle) (a : AstLines) : (s.endCycle c a).pins = s.pins := by
  simp [State.endCycle]
@[simp] theorem State.endCycle_pending (c : CurrentCycle) (a : AstLines) : (s.endCycle c a).pending = s.pending := by
  simp [State.endCycle]
@[simp] theorem State.endCycle_slot (c : CurrentCycle) (a : AstLines) (j : SlotId) : (s.endCycle c a).slot j = s.slot j := by
  simp only [State.slot, State.endCycle_slots]
@[simp] theorem State.endCycle_master (c : CurrentCycle) (a : AstLines) (n' : MasterId) : (s.endCycle c a).master n' = s.master n' := by
  simp only [State.master, State.endCycle_masters]

/-! ## removeReserved -/

@[simp] theorem State.removeReserved_current (c : CurrentCycle) : (s.removeReserved c).current = s.current := by
  unfold State.removeReserved; split
  · split <;> simp
  · rfl
  · rfl
@[simp] theorem State.removeReserved_lines (c : CurrentCycle) : (s.removeReserved c).lines = s.lines := by
  unfold State.removeReserved; split
  · split <;> simp
  · rfl
  · rfl
@[simp] theorem State.removeReserved_shown (c : CurrentCycle) : (s.removeReserved c).shown = s.shown := by
  unfold State.removeReserved; split
  · split <;> simp
  · rfl
  · rfl
@[simp] theorem State.removeReserved_mastership (c : CurrentCycle) : (s.removeReserved c).mastership = s.mastership := by
  unfold State.removeReserved; split
  · split <;> simp
  · rfl
  · rfl
@[simp] theorem State.removeReserved_slots (c : CurrentCycle) : (s.removeReserved c).slots = s.slots := by
  unfold State.removeReserved; split
  · split <;> simp
  · rfl
  · rfl
@[simp] theorem State.removeReserved_masters (c : CurrentCycle) : (s.removeReserved c).masters = s.masters := by
  unfold State.removeReserved; split
  · split <;> simp
  · rfl
  · rfl
@[simp] theorem State.removeReserved_strikeLimit (c : CurrentCycle) : (s.removeReserved c).strikeLimit = s.strikeLimit := by
  unfold State.removeReserved; split
  · split <;> simp
  · rfl
  · rfl
@[simp] theorem State.removeReserved_selection (c : CurrentCycle) : (s.removeReserved c).selection = s.selection := by
  unfold State.removeReserved; split
  · split <;> simp
  · rfl
  · rfl
@[simp] theorem State.removeReserved_queue (c : CurrentCycle) : (s.removeReserved c).queue = s.queue := by
  unfold State.removeReserved; split
  · split <;> simp
  · rfl
  · rfl
@[simp] theorem State.removeReserved_attention (c : CurrentCycle) : (s.removeReserved c).attention = s.attention := by
  unfold State.removeReserved; split
  · split <;> simp
  · rfl
  · rfl
@[simp] theorem State.removeReserved_pins (c : CurrentCycle) : (s.removeReserved c).pins = s.pins := by
  unfold State.removeReserved; split
  · split <;> simp
  · rfl
  · rfl
@[simp] theorem State.removeReserved_pending (c : CurrentCycle) : (s.removeReserved c).pending = s.pending := by
  unfold State.removeReserved; split
  · split <;> simp
  · rfl
  · rfl
@[simp] theorem State.removeReserved_slot (c : CurrentCycle) (j : SlotId) : (s.removeReserved c).slot j = s.slot j := by
  simp only [State.slot, State.removeReserved_slots]
@[simp] theorem State.removeReserved_master (c : CurrentCycle) (n' : MasterId) : (s.removeReserved c).master n' = s.master n' := by
  simp only [State.master, State.removeReserved_masters]

/-! ## acceptReserved -/

@[simp] theorem State.acceptReserved_windows (c : CurrentCycle) : (s.acceptReserved c).windows = s.windows := by
  unfold State.acceptReserved; split <;> simp
@[simp] theorem State.acceptReserved_current (c : CurrentCycle) : (s.acceptReserved c).current = s.current := by
  unfold State.acceptReserved; split <;> simp
@[simp] theorem State.acceptReserved_lines (c : CurrentCycle) : (s.acceptReserved c).lines = s.lines := by
  unfold State.acceptReserved; split <;> simp
@[simp] theorem State.acceptReserved_shown (c : CurrentCycle) : (s.acceptReserved c).shown = s.shown := by
  unfold State.acceptReserved; split <;> simp
@[simp] theorem State.acceptReserved_faultQueue (c : CurrentCycle) : (s.acceptReserved c).faultQueue = s.faultQueue := by
  unfold State.acceptReserved; split <;> simp
@[simp] theorem State.acceptReserved_mastership (c : CurrentCycle) : (s.acceptReserved c).mastership = s.mastership := by
  unfold State.acceptReserved; split <;> simp
@[simp] theorem State.acceptReserved_slots (c : CurrentCycle) : (s.acceptReserved c).slots = s.slots := by
  unfold State.acceptReserved; split <;> simp
@[simp] theorem State.acceptReserved_masters (c : CurrentCycle) : (s.acceptReserved c).masters = s.masters := by
  unfold State.acceptReserved; split <;> simp
@[simp] theorem State.acceptReserved_strikeLimit (c : CurrentCycle) : (s.acceptReserved c).strikeLimit = s.strikeLimit := by
  unfold State.acceptReserved; split <;> simp
@[simp] theorem State.acceptReserved_selection (c : CurrentCycle) : (s.acceptReserved c).selection = s.selection := by
  unfold State.acceptReserved; split <;> simp
@[simp] theorem State.acceptReserved_contexts (c : CurrentCycle) : (s.acceptReserved c).contexts = s.contexts := by
  unfold State.acceptReserved; split <;> simp
@[simp] theorem State.acceptReserved_queue (c : CurrentCycle) : (s.acceptReserved c).queue = s.queue := by
  unfold State.acceptReserved; split <;> simp
@[simp] theorem State.acceptReserved_attention (c : CurrentCycle) : (s.acceptReserved c).attention = s.attention := by
  unfold State.acceptReserved; split <;> simp
@[simp] theorem State.acceptReserved_pins (c : CurrentCycle) : (s.acceptReserved c).pins = s.pins := by
  unfold State.acceptReserved; split <;> simp
@[simp] theorem State.acceptReserved_pending (c : CurrentCycle) : (s.acceptReserved c).pending = s.pending := by
  unfold State.acceptReserved; split <;> simp
@[simp] theorem State.acceptReserved_window (c : CurrentCycle) (v : WindowId) : (s.acceptReserved c).window v = s.window v := by
  simp only [State.window, State.acceptReserved_windows]
@[simp] theorem State.acceptReserved_context (c : CurrentCycle) (n' : MasterId) : (s.acceptReserved c).context n' = s.context n' := by
  simp only [State.context, State.acceptReserved_contexts]
@[simp] theorem State.acceptReserved_slot (c : CurrentCycle) (j : SlotId) : (s.acceptReserved c).slot j = s.slot j := by
  simp only [State.slot, State.acceptReserved_slots]
@[simp] theorem State.acceptReserved_master (c : CurrentCycle) (n' : MasterId) : (s.acceptReserved c).master n' = s.master n' := by
  simp only [State.master, State.acceptReserved_masters]

/-! ## forceDrainOne -/

@[simp] theorem State.forceDrainOne_current (k : SlotId) (w : WindowId) : (State.forceDrainOne k s w).current = s.current := by
  unfold State.forceDrainOne; dsimp only
  split
  · rfl
  · split <;> simp
  · split <;> simp
  · split <;> simp
  · split
    · simp
    · split <;> simp
@[simp] theorem State.forceDrainOne_lines (k : SlotId) (w : WindowId) : (State.forceDrainOne k s w).lines = s.lines := by
  unfold State.forceDrainOne; dsimp only
  split
  · rfl
  · split <;> simp
  · split <;> simp
  · split <;> simp
  · split
    · simp
    · split <;> simp
@[simp] theorem State.forceDrainOne_shown (k : SlotId) (w : WindowId) : (State.forceDrainOne k s w).shown = s.shown := by
  unfold State.forceDrainOne; dsimp only
  split
  · rfl
  · split <;> simp
  · split <;> simp
  · split <;> simp
  · split
    · simp
    · split <;> simp
@[simp] theorem State.forceDrainOne_ort (k : SlotId) (w : WindowId) : (State.forceDrainOne k s w).ort = s.ort := by
  unfold State.forceDrainOne; dsimp only
  split
  · rfl
  · split <;> simp
  · split <;> simp
  · split <;> simp
  · split
    · simp
    · split <;> simp
@[simp] theorem State.forceDrainOne_faultQueue (k : SlotId) (w : WindowId) : (State.forceDrainOne k s w).faultQueue = s.faultQueue := by
  unfold State.forceDrainOne; dsimp only
  split
  · rfl
  · split <;> simp
  · split <;> simp
  · split <;> simp
  · split
    · simp
    · split <;> simp
@[simp] theorem State.forceDrainOne_mastership (k : SlotId) (w : WindowId) : (State.forceDrainOne k s w).mastership = s.mastership := by
  unfold State.forceDrainOne; dsimp only
  split
  · rfl
  · split <;> simp
  · split <;> simp
  · split <;> simp
  · split
    · simp
    · split <;> simp
@[simp] theorem State.forceDrainOne_slots (k : SlotId) (w : WindowId) : (State.forceDrainOne k s w).slots = s.slots := by
  unfold State.forceDrainOne; dsimp only
  split
  · rfl
  · split <;> simp
  · split <;> simp
  · split <;> simp
  · split
    · simp
    · split <;> simp
@[simp] theorem State.forceDrainOne_masters (k : SlotId) (w : WindowId) : (State.forceDrainOne k s w).masters = s.masters := by
  unfold State.forceDrainOne; dsimp only
  split
  · rfl
  · split <;> simp
  · split <;> simp
  · split <;> simp
  · split
    · simp
    · split <;> simp
@[simp] theorem State.forceDrainOne_strikeLimit (k : SlotId) (w : WindowId) : (State.forceDrainOne k s w).strikeLimit = s.strikeLimit := by
  unfold State.forceDrainOne; dsimp only
  split
  · rfl
  · split <;> simp
  · split <;> simp
  · split <;> simp
  · split
    · simp
    · split <;> simp
@[simp] theorem State.forceDrainOne_selection (k : SlotId) (w : WindowId) : (State.forceDrainOne k s w).selection = s.selection := by
  unfold State.forceDrainOne; dsimp only
  split
  · rfl
  · split <;> simp
  · split <;> simp
  · split <;> simp
  · split
    · simp
    · split <;> simp
@[simp] theorem State.forceDrainOne_queue (k : SlotId) (w : WindowId) : (State.forceDrainOne k s w).queue = s.queue := by
  unfold State.forceDrainOne; dsimp only
  split
  · rfl
  · split <;> simp
  · split <;> simp
  · split <;> simp
  · split
    · simp
    · split <;> simp
@[simp] theorem State.forceDrainOne_attention (k : SlotId) (w : WindowId) : (State.forceDrainOne k s w).attention = s.attention := by
  unfold State.forceDrainOne; dsimp only
  split
  · rfl
  · split <;> simp
  · split <;> simp
  · split <;> simp
  · split
    · simp
    · split <;> simp
@[simp] theorem State.forceDrainOne_pins (k : SlotId) (w : WindowId) : (State.forceDrainOne k s w).pins = s.pins := by
  unfold State.forceDrainOne; dsimp only
  split
  · rfl
  · split <;> simp
  · split <;> simp
  · split <;> simp
  · split
    · simp
    · split <;> simp
@[simp] theorem State.forceDrainOne_pending (k : SlotId) (w : WindowId) : (State.forceDrainOne k s w).pending = s.pending := by
  unfold State.forceDrainOne; dsimp only
  split
  · rfl
  · split <;> simp
  · split <;> simp
  · split <;> simp
  · split
    · simp
    · split <;> simp
@[simp] theorem State.forceDrainOne_slot (k : SlotId) (w : WindowId) (j : SlotId) : (State.forceDrainOne k s w).slot j = s.slot j := by
  simp only [State.slot, State.forceDrainOne_slots]
@[simp] theorem State.forceDrainOne_master (k : SlotId) (w : WindowId) (n' : MasterId) : (State.forceDrainOne k s w).master n' = s.master n' := by
  simp only [State.master, State.forceDrainOne_masters]

/-! ## withdrawCycle -/

@[simp] theorem State.withdrawCycle_mastership (k : SlotId) : (s.withdrawCycle k).mastership = s.mastership := by
  unfold State.withdrawCycle; split
  · split <;> simp
  · rfl
@[simp] theorem State.withdrawCycle_slots (k : SlotId) : (s.withdrawCycle k).slots = s.slots := by
  unfold State.withdrawCycle; split
  · split <;> simp
  · rfl
@[simp] theorem State.withdrawCycle_masters (k : SlotId) : (s.withdrawCycle k).masters = s.masters := by
  unfold State.withdrawCycle; split
  · split <;> simp
  · rfl
@[simp] theorem State.withdrawCycle_strikeLimit (k : SlotId) : (s.withdrawCycle k).strikeLimit = s.strikeLimit := by
  unfold State.withdrawCycle; split
  · split <;> simp
  · rfl
@[simp] theorem State.withdrawCycle_selection (k : SlotId) : (s.withdrawCycle k).selection = s.selection := by
  unfold State.withdrawCycle; split
  · split <;> simp
  · rfl
@[simp] theorem State.withdrawCycle_queue (k : SlotId) : (s.withdrawCycle k).queue = s.queue := by
  unfold State.withdrawCycle; split
  · split <;> simp
  · rfl
@[simp] theorem State.withdrawCycle_attention (k : SlotId) : (s.withdrawCycle k).attention = s.attention := by
  unfold State.withdrawCycle; split
  · split <;> simp
  · rfl
@[simp] theorem State.withdrawCycle_pins (k : SlotId) : (s.withdrawCycle k).pins = s.pins := by
  unfold State.withdrawCycle; split
  · split <;> simp
  · rfl
@[simp] theorem State.withdrawCycle_pending (k : SlotId) : (s.withdrawCycle k).pending = s.pending := by
  unfold State.withdrawCycle; split
  · split <;> simp
  · rfl
@[simp] theorem State.withdrawCycle_slot (k : SlotId) (j : SlotId) : (s.withdrawCycle k).slot j = s.slot j := by
  simp only [State.slot, State.withdrawCycle_slots]
@[simp] theorem State.withdrawCycle_master (k : SlotId) (n' : MasterId) : (s.withdrawCycle k).master n' = s.master n' := by
  simp only [State.master, State.withdrawCycle_masters]

/-! ## withdrawEntries -/

@[simp] theorem State.withdrawEntries_windows (k : SlotId) : (s.withdrawEntries k).windows = s.windows := by
  unfold State.withdrawEntries; dsimp only; split
  · rfl
  · simp
@[simp] theorem State.withdrawEntries_current (k : SlotId) : (s.withdrawEntries k).current = s.current := by
  unfold State.withdrawEntries; dsimp only; split
  · rfl
  · simp
@[simp] theorem State.withdrawEntries_lines (k : SlotId) : (s.withdrawEntries k).lines = s.lines := by
  unfold State.withdrawEntries; dsimp only; split
  · rfl
  · simp
@[simp] theorem State.withdrawEntries_shown (k : SlotId) : (s.withdrawEntries k).shown = s.shown := by
  unfold State.withdrawEntries; dsimp only; split
  · rfl
  · simp
@[simp] theorem State.withdrawEntries_slots (k : SlotId) : (s.withdrawEntries k).slots = s.slots := by
  unfold State.withdrawEntries; dsimp only; split
  · rfl
  · simp
@[simp] theorem State.withdrawEntries_masters (k : SlotId) : (s.withdrawEntries k).masters = s.masters := by
  unfold State.withdrawEntries; dsimp only; split
  · rfl
  · simp
@[simp] theorem State.withdrawEntries_strikeLimit (k : SlotId) : (s.withdrawEntries k).strikeLimit = s.strikeLimit := by
  unfold State.withdrawEntries; dsimp only; split
  · rfl
  · simp
@[simp] theorem State.withdrawEntries_selection (k : SlotId) : (s.withdrawEntries k).selection = s.selection := by
  unfold State.withdrawEntries; dsimp only; split
  · rfl
  · simp
@[simp] theorem State.withdrawEntries_contexts (k : SlotId) : (s.withdrawEntries k).contexts = s.contexts := by
  unfold State.withdrawEntries; dsimp only; split
  · rfl
  · simp
@[simp] theorem State.withdrawEntries_queue (k : SlotId) : (s.withdrawEntries k).queue = s.queue := by
  unfold State.withdrawEntries; dsimp only; split
  · rfl
  · simp
@[simp] theorem State.withdrawEntries_attention (k : SlotId) : (s.withdrawEntries k).attention = s.attention := by
  unfold State.withdrawEntries; dsimp only; split
  · rfl
  · simp
@[simp] theorem State.withdrawEntries_pins (k : SlotId) : (s.withdrawEntries k).pins = s.pins := by
  unfold State.withdrawEntries; dsimp only; split
  · rfl
  · simp
@[simp] theorem State.withdrawEntries_pending (k : SlotId) : (s.withdrawEntries k).pending = s.pending := by
  unfold State.withdrawEntries; dsimp only; split
  · rfl
  · simp
@[simp] theorem State.withdrawEntries_window (k : SlotId) (v : WindowId) : (s.withdrawEntries k).window v = s.window v := by
  simp only [State.window, State.withdrawEntries_windows]
@[simp] theorem State.withdrawEntries_context (k : SlotId) (n' : MasterId) : (s.withdrawEntries k).context n' = s.context n' := by
  simp only [State.context, State.withdrawEntries_contexts]
@[simp] theorem State.withdrawEntries_slot (k : SlotId) (j : SlotId) : (s.withdrawEntries k).slot j = s.slot j := by
  simp only [State.slot, State.withdrawEntries_slots]
@[simp] theorem State.withdrawEntries_master (k : SlotId) (n' : MasterId) : (s.withdrawEntries k).master n' = s.master n' := by
  simp only [State.master, State.withdrawEntries_masters]

/-! ## forceDrain -/

/-- Any property that no single window's forced drain changes is kept by the whole of it. -/
theorem State.forceDrain_keeps {α : Type} (f : State → α) (k : SlotId)
    (h : ∀ (t : State) w, f (State.forceDrainOne k t w) = f t) : f (s.forceDrain k) = f s := by
  have step : ∀ (l : List WindowId) (t : State), f (l.foldl (State.forceDrainOne k) t) = f t := by
    intro l
    induction l with
    | nil => intro t; rfl
    | cons w l ih => intro t; rw [List.foldl_cons, ih, h]
  exact step _ s

@[simp] theorem State.forceDrain_current (k : SlotId) : (s.forceDrain k).current = s.current :=
  s.forceDrain_keeps (·.current) k fun t w => t.forceDrainOne_current k w
@[simp] theorem State.forceDrain_lines (k : SlotId) : (s.forceDrain k).lines = s.lines :=
  s.forceDrain_keeps (·.lines) k fun t w => t.forceDrainOne_lines k w
@[simp] theorem State.forceDrain_shown (k : SlotId) : (s.forceDrain k).shown = s.shown :=
  s.forceDrain_keeps (·.shown) k fun t w => t.forceDrainOne_shown k w
@[simp] theorem State.forceDrain_ort (k : SlotId) : (s.forceDrain k).ort = s.ort :=
  s.forceDrain_keeps (·.ort) k fun t w => t.forceDrainOne_ort k w
@[simp] theorem State.forceDrain_faultQueue (k : SlotId) : (s.forceDrain k).faultQueue = s.faultQueue :=
  s.forceDrain_keeps (·.faultQueue) k fun t w => t.forceDrainOne_faultQueue k w
@[simp] theorem State.forceDrain_mastership (k : SlotId) : (s.forceDrain k).mastership = s.mastership :=
  s.forceDrain_keeps (·.mastership) k fun t w => t.forceDrainOne_mastership k w
@[simp] theorem State.forceDrain_slots (k : SlotId) : (s.forceDrain k).slots = s.slots :=
  s.forceDrain_keeps (·.slots) k fun t w => t.forceDrainOne_slots k w
@[simp] theorem State.forceDrain_masters (k : SlotId) : (s.forceDrain k).masters = s.masters :=
  s.forceDrain_keeps (·.masters) k fun t w => t.forceDrainOne_masters k w
@[simp] theorem State.forceDrain_strikeLimit (k : SlotId) : (s.forceDrain k).strikeLimit = s.strikeLimit :=
  s.forceDrain_keeps (·.strikeLimit) k fun t w => t.forceDrainOne_strikeLimit k w
@[simp] theorem State.forceDrain_selection (k : SlotId) : (s.forceDrain k).selection = s.selection :=
  s.forceDrain_keeps (·.selection) k fun t w => t.forceDrainOne_selection k w
@[simp] theorem State.forceDrain_queue (k : SlotId) : (s.forceDrain k).queue = s.queue :=
  s.forceDrain_keeps (·.queue) k fun t w => t.forceDrainOne_queue k w
@[simp] theorem State.forceDrain_attention (k : SlotId) : (s.forceDrain k).attention = s.attention :=
  s.forceDrain_keeps (·.attention) k fun t w => t.forceDrainOne_attention k w
@[simp] theorem State.forceDrain_pins (k : SlotId) : (s.forceDrain k).pins = s.pins :=
  s.forceDrain_keeps (·.pins) k fun t w => t.forceDrainOne_pins k w
@[simp] theorem State.forceDrain_pending (k : SlotId) : (s.forceDrain k).pending = s.pending :=
  s.forceDrain_keeps (·.pending) k fun t w => t.forceDrainOne_pending k w
@[simp] theorem State.forceDrain_slot (k : SlotId) (j : SlotId) : (s.forceDrain k).slot j = s.slot j :=
  s.forceDrain_keeps (·.slot j) k fun t w => t.forceDrainOne_slot k w j
@[simp] theorem State.forceDrain_master (k : SlotId) (n' : MasterId) : (s.forceDrain k).master n' = s.master n' :=
  s.forceDrain_keeps (·.master n') k fun t w => t.forceDrainOne_master k w n'

/-! ## INIT and the bus -/

@[simp] theorem State.whileRunning_released {s : State} (h : s.pins.init = false) (k : Result) :
    s.whileRunning k = k := by
  simp [State.whileRunning, h]

@[simp] theorem State.whileRunning_asserted {s : State} (h : s.pins.init = true) (k : Result) :
    s.whileRunning k = .next s := by
  simp [State.whileRunning, h]

/-- An event answers a next state in one of two ways: INIT holds the part as it is, or the event is taken. -/
theorem State.whileRunning_next {s t : State} {k : Result} (h : s.whileRunning k = .next t) :
    (s.pins.init = true ∧ t = s) ∨ (s.pins.init = false ∧ k = .next t) := by
  unfold State.whileRunning at h
  split at h
  · rename_i hi; cases h; exact .inl ⟨hi, rfl⟩
  · rename_i hi; exact .inr ⟨by simpa using hi, h⟩

@[simp] theorem State.busFree_iff : s.busFree = true ↔ s.current = none ∧ s.mastership ≠ .holding := by
  simp [State.busFree]

theorem State.onFreeBus_free {s : State} (hc : s.current = none) (hm : s.mastership ≠ .holding) (k : Result) :
    s.onFreeBus k = k := by
  have h : s.busFree = true := s.busFree_iff.2 ⟨hc, hm⟩
  simp [State.onFreeBus, h]

/-- A bus event that answers a next state found the bus free. -/
theorem State.onFreeBus_next {s t : State} {k : Result} (h : s.onFreeBus k = .next t) :
    s.current = none ∧ s.mastership ≠ .holding ∧ k = .next t := by
  unfold State.onFreeBus at h
  split at h
  · rename_i hb; exact ⟨(s.busFree_iff.1 hb).1, (s.busFree_iff.1 hb).2, h⟩
  · cases h

theorem State.BusReady.onFreeBus {s : State} (h : s.BusReady) (k : Result) : s.onFreeBus k = k :=
  State.onFreeBus_free h.noCycle h.noTenure k

/-! ## Windows and contexts that an operation does not reach -/

theorem State.window_strike_ne {v w : WindowId} (h : v ≠ w) : (s.strike w).window v = s.window v := by
  unfold State.strike; dsimp only; split
  · split
    · rw [State.raise_window, s.window_setWindow_ne _ h]
    · rw [s.window_setWindow_ne _ h]
  · rfl

theorem State.window_strikeClear_ne {v w : WindowId} (h : v ≠ w) : (s.strikeClear w).window v = s.window v := by
  unfold State.strikeClear; dsimp only; split
  · rw [s.window_setWindow_ne _ h]
  · rfl

theorem State.window_applyChange_ne {v w : WindowId} (h : v ≠ w) : (s.applyChange w).window v = s.window v := by
  unfold State.applyChange; dsimp only; split
  · rw [State.completeWaiter_window, s.window_setWindow_ne _ h]
  · rfl

theorem State.window_becomeFree_ne {v w : WindowId} (h : v ≠ w) : (s.becomeFree w).window v = s.window v := by
  simp [State.becomeFree, State.window_setWindow_ne _ _ h]

theorem State.window_drainCheck_ne {v w : WindowId} (h : v ≠ w) : (s.drainCheck w).window v = s.window v := by
  unfold State.drainCheck; split
  · split
    · exact s.window_applyChange_ne h
    · exact s.window_becomeFree_ne h
    · rfl
    · rfl
    · rfl
  · rfl

theorem State.window_removeEntry_ne {v : WindowId} {e : OrtEntry} (h : v ≠ e.window) :
    (s.removeEntry e).window v = s.window v := by
  rw [State.removeEntry, State.window_drainCheck_ne _ h]; rfl

theorem State.window_endCycle_ne {v : WindowId} {c : CurrentCycle} (a : AstLines) (h : v ≠ c.window) :
    (s.endCycle c a).window v = s.window v := by
  rw [State.endCycle, State.window_drainCheck_ne _ h]; rfl

theorem State.window_forceDrainOne_ne {v w : WindowId} (k : SlotId) (h : v ≠ w) :
    (State.forceDrainOne k s w).window v = s.window v := by
  have hs := fun r => s.window_setWindow_ne r h
  unfold State.forceDrainOne; dsimp only; split
  · rfl
  · split
    · rw [State.window_drainCheck_ne _ h, hs]
    · rfl
  · split
    · rw [State.window_drainCheck_ne _ h, hs]
    · rfl
  · split
    · rw [State.window_drainCheck_ne _ h]
    · rfl
  · split
    · rw [State.window_drainCheck_ne _ h, State.completeWaiter_window, hs]
    · split
      · rw [State.completeWaiter_window, hs]
      · rfl

/-- A completion handed for a waiting context, context by context. -/
theorem State.context_completeWaiter (o : Option MasterId) (code : ResultCode) (ws : Words) (n : MasterId) :
    (s.completeWaiter o code ws).context n = if o = some n then (s.context n).completed code ws else s.context n := by
  cases o with
  | none => simp [State.completeWaiter]
  | some m =>
    rw [State.completeWaiter, State.context_complete]
    by_cases h : n = m
    · subst h; simp
    · have h' : ¬ m = n := fun e => h e.symm
      simp [h, h']

/-! ## The drain check -/

/-- "No references", in words of the ORT and the current cycle. -/
theorem State.unreferenced_iff (w : WindowId) : s.unreferenced w = true ↔ ¬ s.Referenced w := by
  unfold State.unreferenced State.refCount State.marked State.Referenced
  cases hc : s.current with
  | none => simp [List.countP_eq_zero]
  | some c => simp [List.countP_eq_zero]

theorem State.drainCheck_referenced {s : State} {w : WindowId} (h : s.Referenced w) : s.drainCheck w = s := by
  have : s.unreferenced w = false := by
    rw [← Bool.not_eq_true, s.unreferenced_iff]; exact fun n => n h
  simp [State.drainCheck, this]

theorem State.drainCheck_idle {s : State} {w : WindowId} (hh : (s.window w).state ≠ .held)
    (hd : (s.window w).state ≠ .draining) : s.drainCheck w = s := by
  unfold State.drainCheck
  cases h : (s.window w).state <;> simp_all

theorem State.drainCheck_held {s : State} {w : WindowId} (h : ¬ s.Referenced w) (hs : (s.window w).state = .held) :
    s.drainCheck w = s.applyChange w := by
  simp [State.drainCheck, (s.unreferenced_iff w).2 h, hs]

theorem State.drainCheck_draining {s : State} {w : WindowId} (h : ¬ s.Referenced w)
    (hs : (s.window w).state = .draining) : s.drainCheck w = s.becomeFree w := by
  simp [State.drainCheck, (s.unreferenced_iff w).2 h, hs]

/-! ## What a removal and the end of a cycle leave -/

theorem State.removeEntry_ort (e : OrtEntry) : (s.removeEntry e).ort = s.ort.filter (·.key != e.key) := by
  simp [State.removeEntry, State.dropEntry]

theorem State.removeEntry_faultQueue (e : OrtEntry) :
    (s.removeEntry e).faultQueue = s.faultQueue.filter (· != e.key) := by
  simp [State.removeEntry, State.dropEntry]

@[simp] theorem State.endCycle_current (c : CurrentCycle) (a : AstLines) : (s.endCycle c a).current = none := by
  simp [State.endCycle]

@[simp] theorem State.endCycle_lines (c : CurrentCycle) (a : AstLines) :
    (s.endCycle c a).lines = .idle := by
  simp [State.endCycle]

@[simp] theorem State.endCycle_shown (c : CurrentCycle) (a : AstLines) :
    (s.endCycle c a).shown = { s.lines with ast := a } := by
  simp [State.endCycle]

/-! ## The top window -/

/-- The window of a spec-level top (R16) is the one the table reports. -/
theorem State.IsTop.topWindow {s : State} {space : Space} {unit : Nat} {w : WindowId} (h : s.IsTop space unit w) :
    s.topWindow space unit = some w := by
  have key : ∀ layer : Fin 4, (s.window w).layer ≤ layer →
      s.coveringAt space unit layer = if (s.window w).layer = layer then some w else none := by
    intro layer hle
    unfold State.coveringAt
    split
    · rename_i he
      rw [List.find?_eq_some_iff_append]
      obtain ⟨as, bs, hl⟩ := List.append_of_mem (List.mem_finRange w)
      refine ⟨by simp [h.covers, he], as, bs, hl, fun v hv => ?_⟩
      have hne : v ≠ w := by
        have nd := List.nodup_finRange 64
        rw [hl, List.nodup_append] at nd
        exact nd.2.2 v hv w (by simp)
      by_cases hc : (s.window v).covers space unit = true
      · have := h.highest v hne hc
        have hn : (s.window v).layer ≠ layer := fun e => by omega
        simp [hn]
      · simp [hc]
    · rename_i hne'
      rw [List.find?_eq_none]
      intro v _ hv
      simp only [Bool.and_eq_true, beq_iff_eq] at hv
      by_cases hvw : v = w
      · subst hvw; exact hne' hv.2
      · have := h.highest v hvw hv.1
        omega
  have k3 := key 3 (by omega)
  have k2 := fun h => key 2 h
  have k1 := fun h => key 1 h
  have k0 := fun h => key 0 h
  unfold State.topWindow
  simp only [List.findSome?_cons, List.findSome?_nil]
  have hlay : (s.window w).layer = 3 ∨ (s.window w).layer = 2 ∨ (s.window w).layer = 1 ∨ (s.window w).layer = 0 := by
    omega
  rcases hlay with e | e | e | e
  · rw [k3]; simp [e]
  · rw [k3, k2 (by omega)]; simp [e]
  · rw [k3, k2 (by omega), k1 (by omega)]; simp [e]
  · rw [k3, k2 (by omega), k1 (by omega), k0 (by omega)]; simp [e]

/-- No covering window, no top window. -/
theorem State.topWindow_none {s : State} {space : Space} {unit : Nat}
    (h : ∀ w, (s.window w).covers space unit = false) : s.topWindow space unit = none := by
  have key : ∀ layer, s.coveringAt space unit layer = none := by
    intro layer
    unfold State.coveringAt
    rw [List.find?_eq_none]
    intro v _
    simp [h v]
  simp [State.topWindow, key]

/-! ## The OVERLAP check -/

/-- The OVERLAP check on ranges is the spec's check on units, where every range holds at least one unit (R2, R17). -/
theorem State.overlaps_iff {s : State} (hr : s.RangeLaw) (own : Option WindowId) (space : Space) (layer : Fin 4)
    {base length : Nat} (hl : 1 ≤ length) :
    s.overlaps own space layer base length = true ↔ s.Collides own space layer base length := by
  have meet : ∀ b l, 1 ≤ l → (rangesMeet base length b l = true ↔
      ∃ u, inRange b l u = true ∧ base ≤ u ∧ u < base + length) := by
    intro b l hl'
    simp only [rangesMeet, inRange, Bool.and_eq_true, decide_eq_true_eq]
    constructor
    · rintro ⟨h1, h2⟩
      exact ⟨max base b, by omega⟩
    · rintro ⟨u, h⟩
      omega
  have one : ∀ v, (s.window v).state ≠ .free → 1 ≤ (s.window v).length := by
    intro v hv
    have := (hr v).1 hv
    simp [rangeOk] at this
    omega
  have onec : ∀ v, ∀ c ∈ (s.window v).change, 1 ≤ c.length := by
    intro v c hc
    have := (hr v).2 c hc
    simp [rangeOk] at this
    omega
  have win : ∀ v, ((s.window v).occupies space layer base length = true ↔
      (s.window v).layer = layer ∧ ∃ u, (s.window v).covers space u = true ∧ base ≤ u ∧ u < base + length) := by
    intro v
    simp only [Window.occupies, Window.covers, Bool.and_eq_true, bne_iff_ne, beq_iff_eq, Bool.or_eq_true]
    constructor
    · rintro ⟨⟨⟨hf, hs⟩, hl'⟩, h | h⟩
      · obtain ⟨u, hu, hb⟩ := (meet _ _ (one v hf)).1 h
        exact ⟨hl', u, ⟨⟨hf, hs⟩, .inl hu⟩, hb⟩
      · unfold Window.pendingMeets at h
        split at h
        · rename_i c hst hch
          obtain ⟨u, hu, hb⟩ := (meet _ _ (onec v c hch)).1 h
          exact ⟨hl', u, ⟨⟨hf, hs⟩, .inr (by simp [Window.inPending, hst, hch, hu])⟩, hb⟩
        · cases h
    · rintro ⟨hl', u, ⟨⟨hf, hs⟩, h | h⟩, hb⟩
      · exact ⟨⟨⟨hf, hs⟩, hl'⟩, .inl ((meet _ _ (one v hf)).2 ⟨u, h, hb⟩)⟩
      · unfold Window.inPending at h
        split at h
        · rename_i c hst hch
          refine ⟨⟨⟨hf, hs⟩, hl'⟩, .inr ?_⟩
          simp only [Window.pendingMeets, hst, hch]
          exact (meet _ _ (onec v c hch)).2 ⟨u, h, hb⟩
        · cases h
  simp only [State.overlaps, List.any_eq_true, List.mem_finRange, true_and, Bool.and_eq_true, bne_iff_ne, ne_eq, win,
    State.Collides]
  constructor
  · rintro ⟨v, ho, hl', u, hc, hb⟩
    exact ⟨v, u, ho, hl', hc, hb.1, hb.2⟩
  · rintro ⟨v, u, ho, hl', hc, hb1, hb2⟩
    exact ⟨v, ho, hl', u, hc, hb1, hb2⟩

/-- The BAD-RANGE check is the bounds of R2. -/
theorem rangeOk_iff (base length : Nat) (target : Option Nat) :
    rangeOk base length target = true ↔ InBounds base length target := by
  cases target with
  | none =>
    simp only [rangeOk, Bool.and_eq_true, decide_eq_true_eq, and_true]; simp only [Config.units]
    exact ⟨fun h => ⟨by omega, by omega, by omega, by simp⟩, fun h => by
      have := h.baseIn; have := h.lengthIn; have := h.sumIn; omega⟩
  | some n =>
    simp only [rangeOk, Bool.and_eq_true, decide_eq_true_eq]; simp only [Config.units]
    exact ⟨fun h => ⟨by omega, by omega, by omega, by simp; omega⟩, fun h => by
      have := h.baseIn; have := h.lengthIn; have := h.sumIn; have := h.targetIn n rfl; omega⟩

end Sys2Proof.Machine
end

