-- ==== Sys2Proof/Laws/Events.lean ====
section
/-!
SUPPORT. Events whole: the take of a command, the forced drain window by window, and one step of the machine.
-/
namespace Sys2Proof.Machine

variable (s : State)

/-! ## Takes -/

/-- A context written twice holds the last record. -/
@[simp] theorem State.setContext_setContext (m : MasterId) (c d : Context) :
    (s.setContext m c).setContext m d = s.setContext m d := by
  simp [State.setContext]

/-- A window written twice holds the last record. -/
@[simp] theorem State.setWindow_setWindow (w : WindowId) (r q : Window) :
    (s.setWindow w r).setWindow w q = s.setWindow w q := by
  simp [State.setWindow]

/-- A window written and a context written are apart. -/
theorem State.setWindow_setContext (w : WindowId) (r : Window) (m : MasterId) (c : Context) :
    (s.setContext m c).setWindow w r = (s.setWindow w r).setContext m c := rfl

/-- The state in which a command's checks and effect run: the head is gone from the queue and its context is ACTIVE
(R110). -/
def State.taking (m : MasterId) (rest : List MasterId) : State :=
  { s with queue := rest }.setContext m (s.context m).taken

@[simp] theorem State.taking_windows (m : MasterId) (rest : List MasterId) : (s.taking m rest).windows = s.windows := rfl
@[simp] theorem State.taking_current (m : MasterId) (rest : List MasterId) : (s.taking m rest).current = s.current := rfl
@[simp] theorem State.taking_lines (m : MasterId) (rest : List MasterId) : (s.taking m rest).lines = s.lines := rfl
@[simp] theorem State.taking_shown (m : MasterId) (rest : List MasterId) : (s.taking m rest).shown = s.shown := rfl
@[simp] theorem State.taking_ort (m : MasterId) (rest : List MasterId) : (s.taking m rest).ort = s.ort := rfl
@[simp] theorem State.taking_faultQueue (m : MasterId) (rest : List MasterId) : (s.taking m rest).faultQueue = s.faultQueue := rfl
@[simp] theorem State.taking_mastership (m : MasterId) (rest : List MasterId) : (s.taking m rest).mastership = s.mastership := rfl
@[simp] theorem State.taking_slots (m : MasterId) (rest : List MasterId) : (s.taking m rest).slots = s.slots := rfl
@[simp] theorem State.taking_masters (m : MasterId) (rest : List MasterId) : (s.taking m rest).masters = s.masters := rfl
@[simp] theorem State.taking_strikeLimit (m : MasterId) (rest : List MasterId) : (s.taking m rest).strikeLimit = s.strikeLimit := rfl
@[simp] theorem State.taking_selection (m : MasterId) (rest : List MasterId) : (s.taking m rest).selection = s.selection := rfl
@[simp] theorem State.taking_attention (m : MasterId) (rest : List MasterId) : (s.taking m rest).attention = s.attention := rfl
@[simp] theorem State.taking_pins (m : MasterId) (rest : List MasterId) : (s.taking m rest).pins = s.pins := rfl
@[simp] theorem State.taking_pending (m : MasterId) (rest : List MasterId) : (s.taking m rest).pending = s.pending := rfl
@[simp] theorem State.taking_queue (m : MasterId) (rest : List MasterId) : (s.taking m rest).queue = rest := rfl
@[simp] theorem State.taking_window (m : MasterId) (rest : List MasterId) (v : WindowId) :
    (s.taking m rest).window v = s.window v := rfl
@[simp] theorem State.taking_slot (m : MasterId) (rest : List MasterId) (j : SlotId) :
    (s.taking m rest).slot j = s.slot j := rfl
@[simp] theorem State.taking_master (m : MasterId) (rest : List MasterId) (n : MasterId) :
    (s.taking m rest).master n = s.master n := rfl

@[simp] theorem State.taking_unreferenced (m : MasterId) (rest : List MasterId) (w : WindowId) :
    (s.taking m rest).unreferenced w = s.unreferenced w := rfl

@[simp] theorem State.taking_overlaps (m : MasterId) (rest : List MasterId) (own : Option WindowId) (space : Space)
    (layer : Fin 4) (base length : Nat) :
    (s.taking m rest).overlaps own space layer base length = s.overlaps own space layer base length := rfl

@[simp] theorem State.taking_lowestFree (m : MasterId) (rest : List MasterId) :
    (s.taking m rest).lowestFree = s.lowestFree := rfl

@[simp] theorem State.taking_context_self (m : MasterId) (rest : List MasterId) :
    (s.taking m rest).context m = (s.context m).taken := by
  simp [State.taking]

theorem State.taking_context_ne {m n : MasterId} (rest : List MasterId) (h : n ≠ m) :
    (s.taking m rest).context n = s.context n :=
  State.context_setContext_ne _ _ h

/-- A completion inside a take leaves what R113 says. -/
theorem State.taking_complete (m : MasterId) (rest : List MasterId) (code : ResultCode) (ws : Words) :
    (s.taking m rest).complete m code ws = s.takeEnds m rest code ws := by
  simp [State.taking, State.complete, State.takeEnds, Context.completed, Context.taken, Context.endsWith]

/-- A refusal at a take. -/
theorem State.taking_refuse (m : MasterId) (rest : List MasterId) (code : ResultCode) :
    (s.taking m rest).refuse m code = s.takeEnds m rest code ⟨0, 0, 0, 0, 0⟩ :=
  s.taking_complete m rest code _

/-- A command that is whole at its take and has written no table. -/
theorem State.taking_done (m : MasterId) (rest : List MasterId) (ws : Words) :
    (s.taking m rest).done m ws = s.takeEnds m rest .done ws :=
  s.taking_complete m rest .done ws

/-- The same after the command has written one window. -/
theorem State.taking_setWindow_complete (m : MasterId) (rest : List MasterId) (w : WindowId) (r : Window)
    (code : ResultCode) (ws : Words) :
    ((s.taking m rest).setWindow w r).complete m code ws = (s.setWindow w r).takeEnds m rest code ws := by
  exact (s.setWindow w r).taking_complete m rest code ws

/-- A command that has written one window and is whole. -/
theorem State.taking_setWindow_done (m : MasterId) (rest : List MasterId) (w : WindowId) (r : Window) (ws : Words) :
    ((s.taking m rest).setWindow w r).done m ws = (s.setWindow w r).takeEnds m rest .done ws :=
  s.taking_setWindow_complete m rest w r .done ws

/-- A wait begun inside a take leaves what R114 says. -/
theorem State.taking_awaitWindow (m : MasterId) (rest : List MasterId) (w : WindowId) (win : Window) :
    (s.taking m rest).awaitWindow m w win = s.takeWaits m rest w win := by
  simp only [State.awaitWindow, State.takeWaits, State.taking, State.setWindow_setContext,
    State.setContext_setContext, State.context_setContext_self]
  rfl

/-- A take runs when its command is at the head of the queue. -/
theorem State.Takes.take {s : State} {m : MasterId} {rest : List MasterId} {cmd : Captured} (h : s.Takes m rest cmd)
    {named : Word → Bool} (hn : named cmd.code = true) (effect : MasterId → Captured → State → State) :
    s.take named effect = .next (effect m cmd (s.taking m rest)) := by
  simp [State.take, State.whileRunning, h.released, h.head, h.captured, hn, State.taking]

/-- A take that answers a next state: INIT holds the part, or the head of the queue ran. -/
theorem State.take_next {s t : State} {named : Word → Bool} {effect : MasterId → Captured → State → State}
    (h : s.take named effect = .next t) :
    (s.pins.init = true ∧ t = s) ∨ ∃ m rest cmd, s.Takes m rest cmd ∧ named cmd.code = true
      ∧ t = effect m cmd (s.taking m rest) := by
  rcases State.whileRunning_next h with h | ⟨hi, h⟩
  · exact .inl h
  · right
    cases hq : s.queue with
    | nil => simp [hq] at h
    | cons m rest =>
      cases hc : (s.context m).captured with
      | none => simp [hq, hc] at h
      | some cmd =>
        by_cases hn : named cmd.code = true
        · simp only [hq, hc, hn, if_true] at h
          cases h
          exact ⟨m, rest, cmd, ⟨hi, hq, hc⟩, hn, rfl⟩
        · simp [hq, hc, hn] at h

/-- The common checks of a window command pass exactly on a window that the issuer may command (R111, R112). -/
theorem State.MayCommand.windowNamed {s : State} {m : MasterId} {cmd : Captured} {w : WindowId}
    (h : s.MayCommand m cmd w) : s.windowNamed m cmd.words.w0 = .ok w := by
  have hi : indexOf 64 cmd.words.w0.toNat = some w := by
    simp [indexOf, h.named]
  have ha : s.commands m (s.window w) = true := by
    rcases h.authority with ha | ha <;> simp [State.commands, ha]
  simp [State.windowNamed, hi, h.notFree, h.notPort, ha]

/-- A window command that passes its common checks goes on to its own (R111). -/
theorem State.MayCommand.windowCommand {s : State} {m : MasterId} {cmd : Captured} {w : WindowId}
    (h : s.MayCommand m cmd w) (rest : List MasterId) (own : WindowId → State) :
    (s.taking m rest).windowCommand m cmd.words.w0 own = own w := by
  have h' : (s.taking m rest).MayCommand m cmd w := ⟨h.named, h.notFree, h.notPort, h.authority⟩
  simp only [State.windowCommand, h'.windowNamed]

/-- A code names a command (Table 7-3). -/
theorem isCommand_of {c : Command} {code : Word} (h : commandOf code = some c) : isCommand c code = true := by
  simp [isCommand, h]

/-! ## The forced drain, window by window -/

/-- What the drain check makes of a window's own record depends on that record, its references and the command that
waits. -/
theorem State.window_drainCheck_draining {a : State} {w : WindowId} (h : (a.window w).state = .draining) :
    (a.drainCheck w).window w = if a.unreferenced w then .cleared else a.window w := by
  unfold State.drainCheck
  split
  · simp [h, State.becomeFree]
  · rfl

/-- One window of a forced drain depends on that window's record and references alone. -/
theorem State.window_forceDrainOne_congr {a b : State} {w : WindowId} (k : SlotId) (hw : a.window w = b.window w)
    (ho : a.ort = b.ort) (hc : a.current = b.current) :
    (State.forceDrainOne k a w).window w = (State.forceDrainOne k b w).window w := by
  have hu : a.unreferenced w = b.unreferenced w := by
    simp only [State.unreferenced, State.refCount, State.marked, ho, hc]
  have hu' : ∀ (x : State) (r : Window) (o : Option MasterId) (cd : ResultCode) (ws : Words),
      ((x.setWindow w r).completeWaiter o cd ws).unreferenced w = x.unreferenced w := by
    intro x r o cd ws
    simp [State.unreferenced, State.refCount, State.marked]
  have hu'' : ∀ (x : State) (r : Window), (x.setWindow w r).unreferenced w = x.unreferenced w := fun _ _ => rfl
  have hd : ∀ x : State, ((x.setWindow w (x.window w).forceDrained).drainCheck w).window w
      = if x.unreferenced w then .cleared else (x.window w).forceDrained := by
    intro x
    rw [State.window_drainCheck_draining (by simp [Window.forceDrained]), hu'']
    simp
  have hd' : ∀ (x : State) (o : Option MasterId) (cd : ResultCode) (ws : Words),
      (((x.setWindow w (x.window w).forceDrained).completeWaiter o cd ws).drainCheck w).window w
      = if x.unreferenced w then .cleared else (x.window w).forceDrained := by
    intro x o cd ws
    rw [State.window_drainCheck_draining (by simp [Window.forceDrained]), hu']
    simp
  unfold State.forceDrainOne
  rw [hw]
  dsimp only
  cases hs : (b.window w).state with
  | free => exact hw
  | active =>
    dsimp only; split
    · have h1 := hd a; have h2 := hd b
      rw [hw, hu] at h1; rw [h1, h2]
    · exact hw
  | suspended =>
    dsimp only; split
    · have h1 := hd a; have h2 := hd b
      rw [hw, hu] at h1; rw [h1, h2]
    · exact hw
  | draining =>
    dsimp only; split
    · rw [State.window_drainCheck_draining (by rw [hw]; exact hs), State.window_drainCheck_draining hs, hu, hw]
    · exact hw
  | held =>
    dsimp only; split
    · have h1 := hd' a (b.window w).waiting .withdrawn (.one (wordOf w.val))
      have h2 := hd' b (b.window w).waiting .withdrawn (.one (wordOf w.val))
      rw [hw, hu] at h1; rw [h1, h2]
    · split
      · simp
      · exact hw

/-- Window w after a forced drain is window w after its own share of it. -/
theorem State.window_forceDrain (k : SlotId) (w : WindowId) :
    (s.forceDrain k).window w = (State.forceDrainOne k s w).window w := by
  have skip : ∀ (l : List WindowId) (t : State), w ∉ l →
      (l.foldl (State.forceDrainOne k) t).window w = t.window w := by
    intro l
    induction l with
    | nil => intro t _; rfl
    | cons v l ih =>
      intro t hv
      rw [List.foldl_cons, ih _ (fun h => hv (List.mem_cons_of_mem _ h))]
      exact t.window_forceDrainOne_ne k (fun e => hv (by simp [e]))
  have keep : ∀ (l : List WindowId) (t : State), (l.foldl (State.forceDrainOne k) t).ort = t.ort
      ∧ (l.foldl (State.forceDrainOne k) t).current = t.current := by
    intro l
    induction l with
    | nil => intro t; exact ⟨rfl, rfl⟩
    | cons v l ih => intro t; rw [List.foldl_cons]; exact ⟨by rw [(ih _).1]; simp, by rw [(ih _).2]; simp⟩
  obtain ⟨as, bs, hl⟩ := List.append_of_mem (List.mem_finRange w)
  have nd := List.nodup_finRange 64
  rw [hl, List.nodup_append] at nd
  have h1 : w ∉ as := fun h => nd.2.2 w h w (by simp) rfl
  have h2 : w ∉ bs := (List.nodup_cons.1 nd.2.1).1
  unfold State.forceDrain
  rw [hl, List.foldl_append, List.foldl_cons, skip bs _ h2]
  exact State.window_forceDrainOne_congr k (skip as s h1) (keep as s).1 (keep as s).2

/-! ## One step -/

theorem step_nil {s : State} (h : s.pending = []) : step s = .next s.tick := by
  simp [step, h]

/-- A step that answers a next state ran the clocks, or the command at the front. -/
theorem step_next {s t : State} (h : step s = .next t) :
    (s.pending = [] ∧ t = s.tick)
      ∨ ∃ c rest, s.pending = c :: rest ∧ exec c { s with pending := rest } = .next t := by
  unfold step at h
  split at h
  · rename_i hp; cases h; exact .inl ⟨hp, rfl⟩
  · rename_i c rest hp; exact .inr ⟨c, rest, hp, h⟩

end Sys2Proof.Machine
end

