-- ==== Sys2Proof/Laws/Phases.lean ====
section
/-!
SUPPORT. Address phases: what resolution makes of a cycle once its top window is known, and the cycles at the
directory port.
-/
namespace Sys2Proof.Machine

/-- On a ready bus an address phase is its resolution. -/
theorem State.BusReady.addressPhase {s : State} (h : s.BusReady) (a : BusAddress) (m : MasterId) (kind : CycleKind)
    (width : Width) : s.addressPhase a m kind width = .next (s.resolvePhase a m kind width) := by
  simp [State.addressPhase, h.released, h.onFreeBus]

/-- The quiet lines, slot by slot (R35). -/
theorem State.quiet_iff (s : State) (but : Option SlotId) (k : SlotId) :
    (s.quiet but)[k] = true ↔ (s.slot k).mode = .selfDecoding ∧ but ≠ some k := by
  simp [State.quiet]

/-- Idle lines drive nothing. -/
theorem Lines.onlyDrives_idle : Lines.idle.OnlyDrives .released false where
  ast := rfl
  void := rfl
  sel := rfl
  quiet k := by simp [Lines.idle]
  lof := rfl
  data := rfl
  source := rfl
  dest := rfl

/-- A cycle that is over has released every line. -/
theorem State.releaseLines_released (s : State) (l : Lines) : (s.releaseLines l).LinesReleased :=
  Lines.onlyDrives_idle

/-- An answered cycle drives what Table 3-3 says, and releases it. -/
theorem State.answersTo_answer (s : State) (status : Status) : s.AnswersTo (s.answer status) status none where
  frame := rfl
  ast := rfl
  data := rfl
  sel := rfl
  quiet k := (s.quiet_iff none k).trans (by simp)
  lof := rfl
  noReply := ⟨rfl, rfl, rfl⟩
  released := s.releaseLines_released _

/-- A served cycle drives what Table 3-3 says, and releases it. -/
theorem State.answersTo_serve (s : State) (data : Option Word) : s.AnswersTo (s.serve data) .ok data where
  frame := rfl
  ast := rfl
  data := rfl
  sel := rfl
  quiet k := (s.quiet_iff none k).trans (by simp)
  lof := rfl
  noReply := ⟨rfl, rfl, rfl⟩
  released := s.releaseLines_released _

/-- A selected cycle drives what Table 3-3 says and makes its record (R33 to R38). -/
theorem State.selectsFor_select (s : State) (m : MasterId) (kind : CurrentKind) (w : WindowId) (unit : Nat) :
    s.SelectsFor (s.select m kind w unit) m kind w unit where
  frame := rfl
  record := rfl
  sel_directed h := by simp [State.select, h]
  sel_self h := by simp [State.select, h]
  quiet k := (s.quiet_iff _ k).trans (by simp [eq_comm])
  lof_plain h := by simp [State.select, Window.renumber, h]
  lof_target n h := by simp [State.select, Window.renumber, h]
  noDrive := ⟨rfl, rfl, rfl, rfl, rfl⟩

/-- Check 4 as a right of the window (R28). -/
theorem Window.admits_iff (win : Window) (m : MasterId) (kind : CycleKind) :
    win.admits m (isWrite kind) = true ↔ win.allows m kind := by
  cases kind <;> simp [Window.admits, Window.allows, isWrite]

/-- What resolution makes of a cycle of an enabled master whose top window is known, checks 3 to 7. -/
def State.resolveAt (s : State) (w : WindowId) (a : BusAddress) (m : MasterId) (kind : CycleKind) (width : Width) :
    State :=
  match stateAnswer (s.window w).state with
  | some status => s.answer status
  | none =>
    if (s.window w).admits m (isWrite kind) then
      if w = 0 then s.portPhase a m kind width
      else
        match kind with
        | .read => s.select m .read w (unitOf a)
        | .write _ => s.select m .write w (unitOf a)
        | .splitRead tag => s.splitPhase m tag w (unitOf a)
    else s.answer .denied

/-- Checks 1, 1a and 2 passed, the top window decides. -/
theorem State.IsTop.resolvePhase {s : State} {a : BusAddress} {m : MasterId} {kind : CycleKind} {width : Width}
    {w : WindowId} (he : (s.master m).enabled = true) (hs : ¬ (isSplit kind = true ∧ spaceOf a = .io))
    (ht : s.IsTop (spaceOf a) (unitOf a) w) : s.resolvePhase a m kind width = s.resolveAt w a m kind width := by
  have hs' : (isSplit kind && spaceOf a == .io) = false := by
    rw [← Bool.not_eq_true]; simpa using hs
  simp only [State.resolvePhase, State.resolveAt, he, hs', State.verdict, ht.topWindow]
  cases stateAnswer (s.window w).state with
  | some status => simp
  | none =>
    by_cases h1 : (s.window w).admits m (isWrite kind) = true
    · by_cases h2 : w = 0
      · subst h2; simp [h1]
      · simp only [h1, h2, if_true, if_false]; cases kind <;> rfl
    · simp [h1]

/-- Entry 0 is the top window of its granule (R19). -/
theorem State.PortReady.isTop {s : State} {m : MasterId} (h : s.PortReady m) : s.IsTop .io 4095 0 := by
  have hw := h.port
  have hc : (s.window 0).covers .io 4095 = true := by rw [hw]; decide
  refine ⟨hc, fun v hv hcv => ?_⟩
  have h1 := h.overlap v 0 hv _ _ hcv hc
  have h2 : (s.window 0).layer = 3 := by rw [hw]; rfl
  rw [h2] at h1 ⊢
  omega

/-- A READ or a WRITE of an enabled master at 0xFFF0 to 0xFFFF reaches check 5 (R29). -/
theorem State.PortReady.addressPhase {s : State} {m : MasterId} (h : s.PortReady m) {p : BitVec 16}
    (hp : 0xFFF0 ≤ p.toNat) {kind : CycleKind} (width : Width) (hk : isSplit kind = false) :
    s.addressPhase (.io p) m kind width = .next (s.portPhase (.io p) m kind width) := by
  have hu : unitOf (.io p) = 4095 := by
    have := p.isLt
    simp only [unitOf]; omega
  have ht : s.IsTop (spaceOf (.io p)) (unitOf (.io p)) 0 := by rw [hu]; exact h.isTop
  have hall : ∀ n : MasterId, (0xFF : BitVec 8).getLsbD n.val = true := by decide
  rw [h.toBusReady.addressPhase, ht.resolvePhase h.enabled (by simp [hk])]
  have hw : s.window 0 = .directoryPort := h.port
  have ha : (s.window 0).admits m (isWrite kind) = true := by
    rw [hw]
    simp only [Window.admits, Window.directoryPort, hall, ite_self]
  have hst : stateAnswer (s.window 0).state = none := by rw [hw]; rfl
  simp only [State.resolveAt, hst, ha, if_true]

/-- A WRITE to an even port hands its word to the owning block and is acknowledged OK (R29, R31). -/
theorem State.PortReady.write {s : State} {m : MasterId} (h : s.PortReady m) {p : BitVec 16} (hp : 0xFFF0 ≤ p.toNat)
    (he : p.getLsbD 0 = false) (data : Word) (width : Width) :
    s.addressPhase (.io p) m (.write data) width
      = .next ((s.portWrite m (writtenWord data width) (portOf p)).serve none) := by
  rw [h.addressPhase hp width rfl]
  simp only [State.portPhase, he]
  rfl

/-- A READ of an even port drives the port's word and is acknowledged OK (R29, R30). -/
theorem State.PortReady.read {s : State} {m : MasterId} (h : s.PortReady m) {p : BitVec 16} (hp : 0xFFF0 ≤ p.toNat)
    (he : p.getLsbD 0 = false) (width : Width) :
    s.addressPhase (.io p) m .read width = .next (s.serve (some (s.portWord m (portOf p)))) := by
  rw [h.addressPhase hp width rfl]
  simp only [State.portPhase, he]
  rfl

end Sys2Proof.Machine
end

