-- ==== Sys2Proof/WellFormed.lean ====
section
/-!
DEFINITION. Which commands are events the spec knows: the operand values its rules give each row.
-/
namespace Sys2Proof

/-- The word a WRITE of this width hands over is 0x001F, the code of ABANDON: a byte cycle carries bits 7 to 0
alone (R107, R165). -/
def isAbandonData (data : Word) : Width → Bool
  | .word => data == 0x001F
  | .byte => data.toNat % 256 == 0x1F

/-- Well-formedness of a command, checked row by row; the operand types already bound masters, slots, tags and
staging indexes. -/
def Instr.wellFormed : Instr → Bool
  | .init => true
  -- "Slots 1 to 15 each have a presence line" (R86): there is no PRS0.
  | .initRelease prs _ => !prs.getLsbD 0
  | .addressPhase _ _ _ _ => true
  -- The GO row is a write "with a code other than 0x001F" (R106, R107).
  | .go _ code width => !isAbandonData code width
  | .stagingWrite _ _ _ _ => true
  | .attentionClear _ _ _ => true
  | .occupancyWrite _ _ _ => true
  | .abandon _ _ => true
  | .badCommand => true
  | .claim => true
  | .resize => true
  | .move => true
  | .restack => true
  | .grant => true
  | .handover => true
  | .retire => true
  | .reinstate => true
  | .setSlot => true
  | .slotOnline => true
  | .slotOffline => true
  | .setMaster => true
  | .tune => true
  | .inspect => true
  | .resolve => true
  -- OK, or ACCEPT in a SPLIT READ (R43).
  | .properAcknowledge status => status == .ok || status == .accept
  -- Any status but OK; ACCEPT is improper in a READ or WRITE (R44).
  | .improperAcknowledge status => status != .ok
  | .strayAcknowledge _ => true
  | .acknowledgeTimerExpiry => true
  | .deadlineExpiry _ _ => true
  | .replyCycle _ _ _ _ _ => true
  | .mastershipGrant => true
  | .faultReplyEnd => true
  -- "A presence loss cannot reach slot 0" (R89), which has no presence line (R86).
  | .presenceLoss slot => slot != 0
  | .presenceReturn slot _ => slot != 0

end Sys2Proof
end

