-- ==== Sys2Proof/Tests/Slice0.lean ====
section
/-!
SUPPORT. The tests: ill-formed commands that the check refuses, single steps from the spec's examples, and for each
statement with hypotheses a state and operands that meet them.
-/
namespace Sys2Proof.Tests

open Sys2Proof.Machine

-- The tests are elaborated one after the other, to keep few threads.
set_option Elab.async false

/-! ## Well-formedness: one ill-formed command per check -/

theorem test_initRelease_with_prs0_refused : Instr.wellFormed (.initRelease 0x0001 0) = false := by decide
theorem test_go_of_abandon_word_refused : Instr.wellFormed (.go 0 0x001F .word) = false := by decide
theorem test_go_of_abandon_byte_refused : Instr.wellFormed (.go 0 0xFF1F .byte) = false := by decide
theorem test_proper_retry_refused : Instr.wellFormed (.properAcknowledge .retry) = false := by decide
theorem test_improper_ok_refused : Instr.wellFormed (.improperAcknowledge .ok) = false := by decide
theorem test_loss_of_slot_zero_refused : Instr.wellFormed (.presenceLoss 0) = false := by decide
theorem test_return_of_slot_zero_refused : Instr.wellFormed (.presenceReturn 0 .directed) = false := by decide

/-! ## Sample states -/

/-- A card ONLINE in this mode. -/
def card (mode : Mode) : SlotRecord := ⟨true, .online, mode, 40, 64⟩

/-- A rack with cards in slots 3 (DIRECTED), 5 (SELF), both ONLINE, and 7 (OFFLINE); master 7 is disabled. -/
def cards : State :=
  { State.reset with
    slots := ((State.reset.slots.set 3 (card .directed)).set 5 (card .selfDecoding)).set 7
      { card .directed with state := .offline }
    masters := State.reset.masters.set 7 ⟨false, false⟩
    pins := ⟨false, (((Vector.replicate 16 false).set 3 true).set 5 true).set 7 true, Vector.replicate 16 .directed⟩ }

/-- Window 2 of the rack: MEM 256..271, layer 1, slot 3, read by masters 0 and 1, written by master 0. -/
def memory : Window := ⟨.active, .mem, 256, 16, 1, 3, 0x03, 0x01, none, 1, 1, none, none⟩

/-- Window 4 of the rack: MEM 2048..2051, layer 2, slot 5, shown from unit 100. -/
def shifted : Window := ⟨.active, .mem, 2048, 4, 2, 5, 0x0F, 0x0F, some 100, 0, 2, none, none⟩

/-- Window 5 of the rack: IO 16..31, SUSPENDED. -/
def suspended : Window := ⟨.suspended, .io, 16, 16, 0, 3, 0xFF, 0xFF, none, 0, 3, none, none⟩

/-- Window 6 of the rack: IO 48..51, layer 1, slot 5. -/
def ports : Window := ⟨.active, .io, 48, 4, 1, 5, 0x01, 0x01, none, 2, 0, none, none⟩

/-- The rack at rest: windows 2, 4, 5 and 6, nothing in flight, nothing queued. -/
def rack : State :=
  { cards with
    windows := (((cards.windows.set 2 memory).set 4 shifted).set 5 suspended).set 6 ports
    attention := ⟨⟨true, some 5, 1⟩, .clear, .clear⟩ }

/-- A context WAITING on a window with its command. -/
def waitingOn (w : WindowId) (cmd : Captured) : Context := ⟨.waiting, .zero, some cmd, .none, .zero, false, some w⟩

/-- The four busy racks below. -/
inductive Traffic where
  /-- Master 0's SPLIT READ of page 257 is current on window 2, and a fault reply waits. -/
  | cycle
  /-- No cycle is current, and a fault reply waits. -/
  | request
  /-- The part holds the bus and drives that fault reply. -/
  | tenure
  /-- No cycle is current and no fault reply waits. -/
  | calm
deriving DecidableEq, Repr

/-- The lines of a cycle on slot 3 at page 257. -/
def steered : Lines := { Lines.idle with sel := some 3, qt := (Vector.replicate 16 false).set 5 true, lof := some 257 }

/-- The lines of the fault reply to master 0, tag 1. -/
def replying : Lines :=
  { Lines.idle with ast := .byPart .silent, data := some 0, source := some 3, dest := some (0, 1) }

/-- The rack with window 2 HELD by master 1's MOVE to slot 5, window 3 DRAINING for master 2's RETIRE, and reads in
flight on windows 2, 3 and 4. -/
def busy (v : Traffic) : State :=
  { rack with
    windows := (rack.windows.set 2
        { memory with state := .held, change := some ⟨512, 16, 5, some 0⟩, waiting := some 1 }).set 3
        ⟨.draining, .mem, 1024, 8, 0, 3, 0xFF, 0xFF, none, 2, 0, none, some 2⟩
    contexts := (rack.contexts.set 1 (waitingOn 2 ⟨3, ⟨2, 512, 0x8005, 0, 0⟩⟩)).set 2 (waitingOn 3 ⟨7, ⟨3, 0, 0, 0, 0⟩⟩)
    current := if v = .cycle then some ⟨0, .splitRead 2, 2, 3, 40⟩ else none
    lines := match v with
      | .cycle => steered
      | .tenure => replying
      | .request => .idle
      | .calm => .idle
    shown := match v with
      | .cycle => steered
      | .tenure => replying
      | .request => .idle
      | .calm => .idle
    ort :=
      [⟨0, 0, 2, 3, 256, .waiting 4096⟩, ⟨0, 1, 3, 3, 1024, if v = .calm then .waiting 1 else .expired .silent⟩,
        ⟨3, 15, 4, 5, 2048, .waiting 16320⟩] ++ (if v = .cycle then [⟨0, 2, 2, 3, 257, .reserved⟩] else [])
    faultQueue := if v = .calm then [] else [(0, 1)]
    mastership := match v with
      | .cycle => .requesting
      | .request => .requesting
      | .tenure => .holding
      | .calm => .idle }

/-! ### They obey the laws of the device -/

/-- Windows that no two share a space and a layer never overlap. -/
theorem overlapLaw_of_apart {s : State} (h : ∀ v w, v ≠ w → (s.window v).state = .free ∨ (s.window w).state = .free
    ∨ (s.window v).space ≠ (s.window w).space ∨ (s.window v).layer ≠ (s.window w).layer) : s.OverlapLaw := by
  intro v w hne space unit hv hw
  simp only [Window.covers, Bool.and_eq_true, bne_iff_ne, ne_eq, beq_iff_eq] at hv hw
  rcases h v w hne with h | h | h | h
  · exact absurd h hv.1.1
  · exact absurd h hw.1.1
  · exact absurd (hv.1.2.trans hw.1.2.symm) h
  · exact h

theorem rack_deviceLaws : rack.DeviceLaws where
  port := by decide +kernel
  cleared := by decide +kernel
  range := by decide +kernel
  overlap := overlapLaw_of_apart (by decide +kernel)
  service := by decide +kernel
  strike := by decide +kernel
  wait := ⟨by decide +kernel, by decide +kernel, by decide +kernel, by decide +kernel, by decide +kernel,
    by decide +kernel, by decide +kernel⟩
  queue := ⟨by decide +kernel, by decide +kernel, by decide +kernel, by decide +kernel, by decide +kernel⟩
  enabled := by decide +kernel
  supervisor := by decide +kernel
  ort := by decide +kernel
  faultQueue := ⟨by decide +kernel, fun _ => ⟨nofun, nofun⟩⟩
  mastership := by decide +kernel
  reserved := ⟨nofun, nofun⟩
  reference := ⟨nofun, nofun⟩
  slots := ⟨by decide +kernel, by decide +kernel, by decide +kernel⟩
  presence := by decide +kernel
  clock := ⟨nofun, nofun⟩
  attention := fun r => by cases r <;> decide +kernel
  lines := .inl rfl
  init := nofun

theorem busy_deviceLaws (v : Traffic) : (busy v).DeviceLaws where
  port := by cases v <;> decide +kernel
  cleared := by cases v <;> decide +kernel
  range := by cases v <;> decide +kernel
  overlap := overlapLaw_of_apart (by cases v <;> decide +kernel)
  service := by cases v <;> decide +kernel
  strike := by cases v <;> decide +kernel
  wait := ⟨by cases v <;> decide +kernel, by cases v <;> decide +kernel, by cases v <;> decide +kernel,
    by cases v <;> decide +kernel, by cases v <;> decide +kernel, by cases v <;> decide +kernel,
    by cases v <;> decide +kernel⟩
  queue := ⟨by cases v <;> decide +kernel, by cases v <;> decide +kernel, by cases v <;> decide +kernel,
    by cases v <;> decide +kernel, by cases v <;> decide +kernel⟩
  enabled := by cases v <;> decide +kernel
  supervisor := by cases v <;> decide +kernel
  ort := by cases v <;> decide +kernel
  faultQueue := by
    refine ⟨by cases v <;> decide +kernel, fun ⟨m, tag⟩ => ?_⟩
    revert m tag
    cases v <;> decide +kernel
  mastership := by cases v <;> decide +kernel
  reserved := by
    constructor
    · cases v <;> simp [busy]
    · intro c tag hc hk
      cases v with
      | cycle =>
        cases hc
        cases hk
        exact ⟨⟨0, 2, 2, 3, 257, .reserved⟩, by simp [busy, OrtEntry.key]⟩
      | request => cases hc
      | tenure => cases hc
      | calm => cases hc
  reference := by
    constructor
    · cases v <;> decide +kernel
    · cases v <;> simp only [busy] <;> rintro c ⟨rfl⟩
      decide +kernel
  slots := ⟨by cases v <;> decide +kernel, by cases v <;> decide +kernel, by cases v <;> decide +kernel⟩
  presence := by cases v <;> decide +kernel
  clock := by
    constructor
    · cases v <;> decide +kernel
    · cases v <;> simp [busy, Config.ticksPerReplyStep]
  attention := fun r => by cases v <;> cases r <;> decide +kernel
  lines := by
    cases v
    · exact ⟨Or.inr rfl, rfl, rfl, rfl, rfl, rfl, rfl, rfl⟩
    · exact .inl rfl
    · exact .inr ⟨rfl, rfl, rfl, by decide +kernel, rfl⟩
    · exact .inl rfl
  init := by cases v <;> exact nofun

/-- The state with a command of master m captured and alone in the queue. -/
def asking (s : State) (m : MasterId) (code : Word) (words : Words) : State :=
  { s.setContext m ⟨.queued, words, some ⟨code, words⟩, .none, .zero, false, none⟩ with queue := [m] }

theorem asking_takes {s : State} (h : s.pins.init = false) (m : MasterId) (code : Word) (words : Words) :
    (asking s m code words).Takes m [] ⟨code, words⟩ :=
  ⟨h, rfl, by simp [asking, State.context, State.setContext]⟩

theorem asking_context (s : State) (m : MasterId) (code : Word) (words : Words) (n : MasterId) :
    (asking s m code words).context n
      = if n = m then ⟨.queued, words, some ⟨code, words⟩, .none, .zero, false, none⟩ else s.context n := by
  by_cases h : n = m
  · subst h; simp [asking, State.context, State.setContext]
  · have h' : m.val ≠ n.val := fun e => h (Fin.ext e.symm)
    simp [asking, State.context, State.setContext, h, h']

theorem asking_deviceLaws {s : State} (h : s.DeviceLaws) (hi : s.pins.init = false) (hq : s.queue = []) (m : MasterId)
    (he : (s.context m).state = .empty) (ha : (s.master m).enabled = true) (code : Word) (words : Words) :
    (asking s m code words).DeviceLaws where
  port := h.port
  cleared := h.cleared
  range := h.range
  overlap := h.overlap
  service := h.service
  strike := h.strike
  wait := by
    have key : ∀ n w, ((asking s m code words).context n).state = .waiting
          ∧ ((asking s m code words).context n).waitingWindow = some w
        ↔ (s.context n).state = .waiting ∧ (s.context n).waitingWindow = some w := by
      intro n w; rw [asking_context]; split
      · subst n; simp [he]
      · rfl
    have no : ∀ w n, (s.window w).waiting = some n → n ≠ m := by
      intro w n hw e; subst e; rw [((h.wait.named w n).1 hw).1] at he; cases he
    constructor
    · exact h.wait.change_iff_held
    · exact h.wait.held_waits
    · exact h.wait.waiting_state
    · intro w n; rw [key]; exact h.wait.named w n
    · intro n; rw [asking_context]; split
      · simp
      · exact h.wait.waits_on n
    · intro w n hs hw; rw [asking_context, if_neg (no w n hw)]; exact h.wait.held_command w n hs hw
    · intro w n hs hw; rw [asking_context, if_neg (no w n hw)]; exact h.wait.draining_command w n hs hw
  queue := by
    have none_queued : ∀ n, (s.context n).state ≠ .queued := by
      intro n hn; have := (h.queue.queued n).2 hn; rw [hq] at this; cases this
    constructor
    · simp [asking]
    · intro n; rw [asking_context]; by_cases e : n = m <;> simp [asking, e, none_queued]
    · intro n; rw [asking_context]; split
      · nofun
      · exact h.queue.not_active n
    · intro n; rw [asking_context]; split
      · simp
      · exact h.queue.captured n
    · intro n; rw [asking_context]; split
      · exact fun _ => ⟨rfl, rfl⟩
      · exact h.queue.result n
  enabled := by
    intro n; rw [asking_context]; split
    · subst n; exact fun _ => ha
    · exact h.enabled n
  supervisor := h.supervisor
  ort := h.ort
  faultQueue := h.faultQueue
  mastership := h.mastership
  reserved := ⟨h.reserved.of_entry, h.reserved.of_cycle⟩
  reference := ⟨h.reference.entry, h.reference.cycle⟩
  slots := ⟨h.slots.slot_zero, h.slots.absent, h.slots.limits⟩
  presence := h.presence
  clock := h.clock
  attention := h.attention
  lines := h.lines
  init := fun e => absurd e (by rw [show (asking s m code words).pins = s.pins from rfl, hi]; nofun)

/-! ## States and operands that meet the premises of the statements

One theorem for each statement that has premises, named after it. -/

theorem rack_busReady : rack.BusReady := ⟨rfl, rfl, nofun⟩

theorem busy_busReady : (busy .request).BusReady := ⟨rfl, rfl, nofun⟩

/-- Master m makes served port cycles in the busy rack, whatever its context. -/
theorem busy_portReady (m : MasterId) (h : m ≠ 7) : (busy .request).PortReady m where
  toBusReady := busy_busReady
  enabled := by revert h; revert m; decide +kernel
  port := (busy_deviceLaws .request).port
  overlap := (busy_deviceLaws .request).overlap

theorem isTop_of_table {s : State} {sp : Space} {u : Nat} {w : WindowId} (h : (s.window w).covers sp u = true
    ∧ ∀ v, v ≠ w → (s.window v).covers sp u = true → (s.window v).layer < (s.window w).layer) : s.IsTop sp u w :=
  ⟨h.1, h.2⟩

theorem not_collides {s : State} (hr : s.RangeLaw) {own : Option WindowId} {sp : Space} {l : Fin 4} {base length : Nat}
    (h : (1 ≤ length) ∧ s.overlaps own sp l base length = false) : ¬ s.Collides own sp l base length := by
  rw [← s.overlaps_iff hr own sp l h.1, h.2]; nofun

/-- INIT asserted over the rack. -/
def held : State := { State.reset with pins := { rack.pins with init := true } }

theorem test_premises_StepRunsFrontCommand : ({ rack with pending := [.init, .tune] } : State).pending = .init :: [.tune] :=
  rfl

theorem test_premises_IdleStepRunsClocks :
    ((busy .request).pending = [] ∧ (busy .request).current = none)
    ∧ (busy .cycle).pending = [] ∧ (busy .cycle).current = some ⟨0, .splitRead 2, 2, 3, 40⟩ := by
  decide +kernel

theorem test_premises_InitReleased : held.pins.init = true
    ∧ (∀ k : SlotId, k = 1 ∨ k = 15 → k ≠ 0 ∧ (0x8002#16).getLsbD k.val = true)
    ∧ ∀ k : SlotId, k = 2 ∨ k = 14 → k ≠ 0 ∧ (0x8002#16).getLsbD k.val = false := by decide +kernel

theorem test_premises_HeldWhileInitAsserted : held.pins.init = true ∧ held.prsLevel 3 = true
    ∧ held.prsLevel 1 = false ∧ held.prsLevel 15 = false := by decide +kernel

theorem test_premises_ImpossibleEventsStop :
    ((busy .cycle).pins.init = false ∧ (busy .cycle).current ≠ none ∧ (busy .cycle).mastership ≠ .holding)
    ∧ ((busy .tenure).pins.init = false ∧ (busy .tenure).mastership = .holding ∧ (busy .tenure).prsLevel 1 = false)
    ∧ (rack.pins.init = false ∧ rack.queue = [] ∧ rack.prsLevel 3 = true) := by decide +kernel

theorem test_premises_ImpossibleEventsStop_take : (asking rack 0 0x02 .zero).Takes 0 [] ⟨0x02, .zero⟩
    ∧ (∃ p ∈ codedRows, (0x02 : Word) ≠ p.2) ∧ ∃ p ∈ codedRows, (0x02 : Word) = p.2 :=
  ⟨asking_takes rfl _ _ _, ⟨(.move, 0x03), by decide, by decide⟩, (.resize, 0x02), by decide, by decide⟩

/-- A RESERVED entry, in its cycle. -/
theorem test_premises_ImpossibleEventsStop_reserved : (busy .cycle).pins.init = false ∧ (busy .cycle).OrtLaw
    ∧ ⟨0, 2, 2, 3, 257, .reserved⟩ ∈ (busy .cycle).ort :=
  ⟨rfl, (busy_deviceLaws _).ort, by decide +kernel⟩

theorem test_premises_PresenceReturn :
    rack.pins.init = false ∧ rack.prsLevel 1 = false ∧ rack.prsLevel 15 = false := by decide +kernel

/-- The current cycle is on slot 3, and not on slot 5. -/
theorem test_premises_PresenceLossSlotCycleAttention :
    (busy .cycle).pins.init = false ∧ (busy .cycle).prsLevel 3 = true ∧ (busy .cycle).prsLevel 5 = true
    ∧ (busy .cycle).current.map (·.slot) = some 3 := by decide +kernel

/-- Entries WAITING on slot 3 find the tracker IDLE and REQUESTING. -/
theorem test_premises_PresenceLossReads :
    ((busy .calm).DeviceLaws ∧ (busy .calm).pins.init = false ∧ (busy .calm).prsLevel 3 = true
      ∧ (busy .calm).mastership = .idle)
    ∧ (busy .cycle).DeviceLaws ∧ (busy .cycle).pins.init = false ∧ (busy .cycle).prsLevel 3 = true
      ∧ (busy .cycle).mastership ≠ .idle :=
  ⟨⟨busy_deviceLaws _, by decide +kernel⟩, busy_deviceLaws _, by decide +kernel⟩

/-- Slot 3 has a HELD and a DRAINING window; slot 5 an ACTIVE one, and the HELD one is bound for it. -/
theorem test_premises_PresenceLossDrains : (busy .request).DeviceLaws ∧ (busy .request).pins.init = false
    ∧ (busy .request).prsLevel 3 = true ∧ (busy .request).prsLevel 5 = true
    ∧ ((busy .request).window 2).boundFor 5 = true :=
  ⟨busy_deviceLaws _, by decide +kernel⟩

theorem test_premises_AnsweredWithoutWindow : rack.BusReady ∧ (rack.master 7).enabled = false
    ∧ (rack.master 0).enabled = true
    ∧ (∀ w, (rack.window w).covers .mem (unitOf (.mem 0x010000)) = false)
    ∧ (∀ w, (rack.window w).covers .mem (unitOf (.mem 0xFFFFFF)) = false)
    ∧ ∀ w, (rack.window w).covers .io (unitOf (.io 0x0000)) = false :=
  ⟨rack_busReady, by decide +kernel⟩

theorem test_premises_SplitReadInIoDenied : rack.BusReady ∧ (rack.master 0).enabled = true :=
  ⟨rack_busReady, by decide +kernel⟩

theorem test_premises_TopWindowIsHighest : (busy .request).OverlapLaw := (busy_deviceLaws _).overlap

/-- SUSPENDED, HELD by current and by pending range, DRAINING, and ACTIVE without the right, each at a limit of its
range. -/
theorem test_premises_AnsweredByTopWindow : (busy .request).BusReady ∧ ((busy .request).master 1).enabled = true
    ∧ ((busy .request).IsTop .io (unitOf (.io 0x01FF)) 5 ∧ ((busy .request).window 5).state = .suspended)
    ∧ ((busy .request).IsTop .mem (unitOf (.mem 0x100000)) 2 ∧ ((busy .request).window 2).state = .held)
    ∧ (busy .request).IsTop .mem (unitOf (.mem 0x20FFFF)) 2
    ∧ ((busy .request).IsTop .mem (unitOf (.mem 0x407FFF)) 3 ∧ ((busy .request).window 3).state = .draining)
    ∧ (busy .request).IsTop .mem (unitOf (.mem 0x000FFF)) 1 ∧ ((busy .request).window 1).state = .active
    ∧ ¬ ((busy .request).window 1).allows 1 (.write 0) :=
  ⟨busy_busReady, by decide +kernel, ⟨isTop_of_table (by decide +kernel), by decide +kernel⟩,
    ⟨isTop_of_table (by decide +kernel), by decide +kernel⟩, isTop_of_table (by decide +kernel),
    ⟨isTop_of_table (by decide +kernel), by decide +kernel⟩, isTop_of_table (by decide +kernel), by decide +kernel,
    show ¬ (((busy .request).window 1).writeSet.getLsbD 1 = true) by decide +kernel⟩

theorem test_premises_OddPortDenied : (busy .request).PortReady 0
    ∧ ∀ p : BitVec 16, p = 0xFFF1 ∨ p = 0xFFFF → 0xFFF0 ≤ p.toNat ∧ p.getLsbD 0 = true :=
  ⟨busy_portReady 0 (by decide), by rintro p (rfl | rfl) <;> decide⟩

/-- A master without a command and one whose context is not COMPLETE; the laws that bound OCCUPANCY. -/
theorem test_premises_PortReadServed : (busy .request).PortReady 1 ∧ ((busy .request).context 1).state ≠ .complete
    ∧ (busy .request).QueueLaw ∧ (busy .request).OrtLaw :=
  ⟨busy_portReady 1 (by decide), by decide +kernel, (busy_deviceLaws _).queue, (busy_deviceLaws _).ort⟩

/-- The busy rack with the result of a command in context 3. -/
def answered : State :=
  (busy .request).setContext 3 ⟨.complete, ⟨1, 2, 3, 4, 5⟩, none, .done, ⟨9, 8, 7, 6, 5⟩, true, none⟩

theorem answered_portReady : answered.PortReady 3 where
  toBusReady := ⟨rfl, rfl, nofun⟩
  enabled := by decide +kernel
  port := (busy_deviceLaws .request).port
  overlap := (busy_deviceLaws .request).overlap

theorem test_premises_PortReadServed_complete : answered.PortReady 3 ∧ (answered.context 3).state = .complete :=
  ⟨answered_portReady, by decide +kernel⟩

/-- The rack with all 32 entries taken. -/
def full : State :=
  { rack with ort := (List.finRange 32).map fun n =>
      ⟨⟨n.val / 16, by omega⟩, ⟨n.val % 16, by omega⟩, 2, 3, 256, .waiting 64⟩ }

theorem test_premises_SplitReadRefused : full.BusReady ∧ (full.master 0).enabled = true
    ∧ full.IsTop .mem ((0x10FFFF#24).toNat / 4096) 2 ∧ (full.window 2).state = .active
    ∧ ((full.window 2).allows 0 (.splitRead 15) ∧ ∃ e ∈ full.ort, e.master = 0 ∧ e.tag = 15)
    ∧ full.ort.length = 32 ∧ (full.window 4).allows 3 (.splitRead 0)
    ∧ full.IsTop .mem ((0x800000#24).toNat / 4096) 4 ∧ ∀ e ∈ full.ort, ¬ (e.master = 3 ∧ e.tag = 0) :=
  ⟨⟨rfl, rfl, nofun⟩, by decide +kernel, isTop_of_table (by decide +kernel), by decide +kernel,
    ⟨show (full.window 2).readSet.getLsbD 0 = true by decide +kernel, by decide +kernel⟩, by decide +kernel,
    show (full.window 4).readSet.getLsbD 3 = true by decide +kernel, isTop_of_table (by decide +kernel),
    by decide +kernel⟩

/-- READ, WRITE and SPLIT READ at both ends of windows of both spaces, on DIRECTED and SELF slots, with 31 entries. -/
theorem test_premises_CycleSelected : rack.BusReady ∧ (rack.master 0).enabled = true
    ∧ (rack.IsTop .mem (unitOf (.mem 0x100000)) 2 ∧ (rack.window 2).state = .active
      ∧ (rack.window 2).allows 0 .read ∧ (rack.window 2).allows 0 (.write 1))
    ∧ (rack.IsTop .io (unitOf (.io 0x033F)) 6 ∧ (rack.window 6).state = .active ∧ (rack.window 6).allows 0 .read)
    ∧ rack.IsTop .mem (unitOf (.mem 0x803FFF)) 4 ∧ (rack.window 4).state = .active
    ∧ (rack.window 4).allows 0 (.splitRead 15) ∧ ∀ e ∈ rack.ort, ¬ (e.master = 0 ∧ e.tag = 15) :=
  ⟨rack_busReady, by decide +kernel,
    ⟨isTop_of_table (by decide +kernel), by decide +kernel,
      show (rack.window 2).readSet.getLsbD 0 = true by decide +kernel,
      show (rack.window 2).writeSet.getLsbD 0 = true by decide +kernel⟩,
    ⟨isTop_of_table (by decide +kernel), by decide +kernel,
      show (rack.window 6).readSet.getLsbD 0 = true by decide +kernel⟩,
    isTop_of_table (by decide +kernel), by decide +kernel,
    show (rack.window 4).readSet.getLsbD 0 = true by decide +kernel, by decide +kernel⟩

/-- The 32nd entry: 31 are taken. -/
theorem test_premises_CycleSelected_last_entry : { full with ort := full.ort.tail }.BusReady
    ∧ full.ort.tail.length < 32 ∧ ∀ e ∈ full.ort.tail, ¬ (e.master = 0 ∧ e.tag = 0) :=
  ⟨⟨rfl, rfl, nofun⟩, by decide +kernel, by decide +kernel⟩

theorem test_premises_PortWriteRowsAreAddressPhases :
    ∀ data : Word, data = 0x001F ∨ data = 0xFF1F → data.toNat % 256 = 0x1F := by
  rintro data (rfl | rfl) <;> decide

theorem test_premises_GoAccepted :
    ((busy .request).PortReady 0 ∧ ((busy .request).context 0).state = .empty ∧ (0x0001 : Word) ≠ 0x001F)
    ∧ answered.PortReady 3 ∧ (answered.context 3).state = .complete :=
  ⟨⟨busy_portReady 0 (by decide), by decide +kernel⟩, answered_portReady, by decide +kernel⟩

/-- Two commands queued behind each other, of masters 4 and 3. -/
def queued : State :=
  { (rack.setContext 4 ⟨.queued, .zero, some ⟨1, .zero⟩, .none, .zero, false, none⟩).setContext 3
      ⟨.queued, .zero, some ⟨1, .zero⟩, .none, .zero, true, none⟩ with queue := [4, 3] }

theorem queued_portReady : queued.PortReady 3 where
  toBusReady := ⟨rfl, rfl, nofun⟩
  enabled := by decide +kernel
  port := rack_deviceLaws.port
  overlap := rack_deviceLaws.overlap

theorem test_premises_GoByteAndOverrun :
    (queued.PortReady 3 ∧ (queued.context 3).state = .queued)
    ∧ (busy .request).PortReady 1 ∧ ((busy .request).context 1).state = .waiting :=
  ⟨⟨queued_portReady, by decide +kernel⟩, busy_portReady 1 (by decide), by decide +kernel⟩

theorem test_premises_StagingWrite : answered.PortReady 3 ∧ (answered.context 3).staging = ⟨1, 2, 3, 4, 5⟩
    ∧ (0x00FF : Word).toNat = (0xABFF : Word).toNat % 256 :=
  ⟨answered_portReady, by decide +kernel⟩

theorem test_premises_AttentionAndOccupancyWrite :
    ((busy .request).PortReady 0 ∧ ((busy .request).master 0).supervisor = true)
    ∧ (busy .request).PortReady 1 ∧ ((busy .request).master 1).supervisor = false :=
  ⟨⟨busy_portReady 0 (by decide), by decide +kernel⟩, busy_portReady 1 (by decide), by decide +kernel⟩

theorem test_premises_AbandonQueued : queued.PortReady 3 ∧ queued.QueueLaw ∧ (queued.context 3).state = .queued
    ∧ queued.queue = [4] ++ 3 :: [] :=
  ⟨queued_portReady, ⟨by decide +kernel, by decide +kernel, by decide +kernel, by decide +kernel, by decide +kernel⟩,
    by decide +kernel⟩

theorem test_premises_AbandonWaitingChange : (busy .request).PortReady 1 ∧ ((busy .request).context 1).state = .waiting
    ∧ ((busy .request).context 1).waitingWindow = some 2
    ∧ ((busy .request).context 1).captured = some ⟨3, ⟨2, 512, 0x8005, 0, 0⟩⟩ :=
  ⟨busy_portReady 1 (by decide), by decide +kernel⟩

theorem test_premises_AbandonWithoutEffect :
    ((busy .request).PortReady 0 ∧ ((busy .request).context 0).state = .empty)
    ∧ (answered.PortReady 3 ∧ (answered.context 3).state = .complete)
    ∧ (busy .request).PortReady 2 ∧ ((busy .request).context 2).state = .waiting
    ∧ ((busy .request).context 2).captured = some ⟨7, ⟨3, 0, 0, 0, 0⟩⟩ :=
  ⟨⟨busy_portReady 0 (by decide), by decide +kernel⟩, ⟨answered_portReady, by decide +kernel⟩,
    busy_portReady 2 (by decide), by decide +kernel⟩

/-- The rack in a plain READ of master 0 on window `w` of slot `k`. -/
def readingOn (w : WindowId) (k : SlotId) : State :=
  { rack with current := some ⟨0, .read, w, k, 40⟩, lines := { Lines.idle with lof := some 256 } }

/-- The busy rack in a READ of window 3, DRAINING by now. -/
def drainingCycle : State := { busy .request with current := some ⟨0, .read, 3, 3, 40⟩ }

/-- A SPLIT READ and a READ are current. -/
theorem test_premises_CycleEnds :
    ((busy .cycle).pins.init = false ∧ (busy .cycle).current = some ⟨0, .splitRead 2, 2, 3, 40⟩
      ∧ (busy .cycle).OrtLaw ∧ (busy .cycle).FaultQueueLaw ∧ (busy .cycle).ReservedLaw)
    ∧ (readingOn 2 3).pins.init = false ∧ (readingOn 2 3).current = some ⟨0, .read, 2, 3, 40⟩ ∧ (readingOn 2 3).OrtLaw
    ∧ (readingOn 2 3).FaultQueueLaw ∧ (readingOn 2 3).ReservedLaw :=
  ⟨⟨rfl, rfl, (busy_deviceLaws _).ort, (busy_deviceLaws _).faultQueue, (busy_deviceLaws _).reserved⟩,
    rfl, rfl, rack_deviceLaws.ort, rack_deviceLaws.faultQueue, ⟨nofun, by rintro c tag ⟨rfl⟩; nofun⟩⟩

/-- The current window ACTIVE, at one strike and one below the limit; SUSPENDED; HELD; and DRAINING. -/
theorem test_premises_CycleEndStrikes :
    ((readingOn 2 3).pins.init = false ∧ (readingOn 2 3).current = some ⟨0, .read, 2, 3, 40⟩
      ∧ ((readingOn 2 3).window 2).state = .active
      ∧ ((readingOn 2 3).window 2).strikes + 1 ≠ (readingOn 2 3).strikeLimit)
    ∧ ((readingOn 4 5).pins.init = false ∧ (readingOn 4 5).current = some ⟨0, .read, 4, 5, 40⟩
      ∧ ((readingOn 4 5).window 4).state = .active
      ∧ ((readingOn 4 5).window 4).strikes + 1 = (readingOn 4 5).strikeLimit)
    ∧ ((readingOn 5 3).current = some ⟨0, .read, 5, 3, 40⟩ ∧ ((readingOn 5 3).window 5).state = .suspended)
    ∧ ((busy .cycle).current = some ⟨0, .splitRead 2, 2, 3, 40⟩ ∧ ((busy .cycle).window 2).state = .held)
    ∧ ((drainingCycle.pins.init = false ∧ drainingCycle.current = some ⟨0, .read, 3, 3, 40⟩)
      ∧ (drainingCycle.window 3).state = .draining) := by
  decide +kernel

/-- References that an acknowledge, a reply and a fault reply take from HELD and DRAINING windows. -/
theorem test_premises_DrainCheckAtLostReference :
    ((busy .cycle).DeviceLaws ∧ ((busy .cycle).window 2).state = .held
      ∧ (busy .cycle).current = some ⟨0, .splitRead 2, 2, 3, 40⟩)
    ∧ ((busy .request).DeviceLaws ∧ (busy .request).current = none ∧ (busy .request).mastership ≠ .holding
      ∧ ⟨0, 0, 2, 3, 256, .waiting 4096⟩ ∈ (busy .request).ort
      ∧ ⟨0, 1, 3, 3, 1024, .expired .silent⟩ ∈ (busy .request).ort)
    ∧ (busy .tenure).DeviceLaws ∧ (busy .tenure).mastership = .holding
    ∧ ((busy .tenure).window 3).state = .draining
    ∧ ⟨0, 1, 3, 3, 1024, .expired .silent⟩ ∈ (busy .tenure).ort ∧ (busy .tenure).faultQueue.head? = some (0, 1) :=
  ⟨⟨busy_deviceLaws _, by decide +kernel⟩, ⟨busy_deviceLaws _, by decide +kernel⟩, busy_deviceLaws _,
    by decide +kernel⟩

/-- A later cycle is current; no cycle is; the pair (0, 1) has no WAITING entry. -/
theorem test_premises_UnmatchedEventsIgnored :
    ((busy .cycle).pins.init = false ∧ (busy .cycle).current = some ⟨0, .splitRead 2, 2, 3, 40⟩)
    ∧ (busy .request).pins.init = false ∧ (busy .request).current = none
    ∧ ∀ e ∈ (busy .request).ort, e.master = 0 → e.tag = 1 → ∀ d, e.state ≠ .waiting d :=
  ⟨⟨rfl, rfl⟩, rfl, rfl, by simp [busy]⟩

/-- A WAITING entry of a HELD window, while IDLE and while REQUESTING, and one of an ACTIVE window. -/
theorem test_premises_DeadlineExpires :
    ((busy .calm).pins.init = false ∧ (busy .calm).OrtLaw ∧ ⟨0, 0, 2, 3, 256, .waiting 4096⟩ ∈ (busy .calm).ort
      ∧ (busy .calm).mastership = .idle ∧ ((busy .calm).window 2).state = .held)
    ∧ (busy .request).OrtLaw ∧ ⟨3, 15, 4, 5, 2048, .waiting 16320⟩ ∈ (busy .request).ort
    ∧ (busy .request).mastership ≠ .idle ∧ ((busy .request).window 4).state = .active
    ∧ ((busy .request).window 4).strikes + 1 = (busy .request).strikeLimit :=
  ⟨⟨rfl, (busy_deviceLaws _).ort, by decide +kernel⟩, (busy_deviceLaws _).ort, by decide +kernel⟩

theorem test_premises_ReplyPasses : (busy .request).BusReady ∧ (busy .request).OrtLaw ∧ (busy .request).FaultQueueLaw
    ∧ ⟨3, 15, 4, 5, 2048, .waiting 16320⟩ ∈ (busy .request).ort
    ∧ ⟨0, 1, 3, 3, 1024, .expired .silent⟩ ∈ (busy .request).ort ∧ (busy .request).mastership = .requesting :=
  ⟨busy_busReady, (busy_deviceLaws _).ort, (busy_deviceLaws _).faultQueue, by decide +kernel⟩

/-- No entry; an entry of another slot. -/
theorem test_premises_ReplyVoided : (busy .request).BusReady
    ∧ (∀ e ∈ (busy .request).ort, ¬ (e.master = 7 ∧ e.tag = 15))
    ∧ ∀ e ∈ (busy .request).ort, e.master = 0 → e.tag = 0 → e.state ≠ .reserved ∧ e.slot ≠ 5 :=
  ⟨busy_busReady, by decide +kernel⟩

/-- An entry that a presence loss has expired. -/
def withdrawn : State := { busy .request with ort := [⟨0, 1, 3, 3, 1024, .expired .withdrawn⟩] }

theorem test_premises_ReplyVoided_withdrawn : withdrawn.BusReady
    ∧ ∀ e ∈ withdrawn.ort, e.state ≠ .reserved ∧ e.state = .expired .withdrawn :=
  ⟨⟨rfl, rfl, nofun⟩, by decide +kernel⟩

theorem test_premises_FaultReplyTenure : (busy .tenure).pins.init = false ∧ (busy .tenure).current = none
    ∧ (busy .tenure).OrtLaw ∧ (busy .tenure).FaultQueueLaw
    ∧ ⟨0, 1, 3, 3, 1024, .expired .silent⟩ ∈ (busy .tenure).ort ∧ (busy .tenure).faultQueue = (0, 1) :: []
    ∧ (busy .tenure).mastership = .holding :=
  ⟨rfl, rfl, (busy_deviceLaws _).ort, (busy_deviceLaws _).faultQueue, by decide +kernel⟩

theorem test_premises_EmptyTenure :
    (busy .calm).pins.init = false ∧ (busy .calm).current = none ∧ (busy .calm).faultQueue = [] := by decide +kernel

/-! ### The engine's takes -/

/-- Master 0 asks the busy rack for a command. -/
def asks (code : Word) (words : Words) : State := asking (busy .request) 0 code words

theorem asks_takes (code : Word) (words : Words) : (asks code words).Takes 0 [] ⟨code, words⟩ := asking_takes rfl _ _ _

theorem asks_deviceLaws (code : Word) (words : Words) : (asks code words).DeviceLaws :=
  asking_deviceLaws (busy_deviceLaws _) rfl rfl 0 (by decide +kernel) (by decide +kernel) code words

/-- Master 3, which is neither a supervisor nor a sponsor, asks the busy rack for a command. -/
def begs (code : Word) (words : Words) : State := asking (busy .request) 3 code words

theorem begs_takes (code : Word) (words : Words) : (begs code words).Takes 3 [] ⟨code, words⟩ := asking_takes rfl _ _ _

/-- Master 0, a supervisor, may command window w of the busy rack. -/
theorem asks_mayCommand (w : WindowId) (h : w ≠ 0 ∧ ((busy .request).window w).state ≠ .free) (code : Word)
    (words : Words) (hn : words.w0.toNat = w.val) : (asks code words).MayCommand 0 ⟨code, words⟩ w :=
  ⟨hn, h.2, h.1, .inr (show ((busy .request).master 0).supervisor = true by decide +kernel)⟩

/-- The codes beside the table's: 0, the holes, and the greatest. -/
theorem test_premises_BadCommand : ∀ code : Word, code ∈ [0x0000, 0x0009, 0x000F, 0x0015, 0x001A, 0xFFFF] →
    (asks code .zero).Takes 0 [] ⟨code, .zero⟩ ∧ code ≠ 0x01 ∧ (∀ p ∈ windowRows ++ registryRows, code ≠ p.2)
    ∧ code ≠ 0x18 ∧ code ≠ 0x19 :=
  fun code h => ⟨asks_takes code .zero, by
    simp only [List.mem_cons, List.not_mem_nil, or_false] at h
    rcases h with rfl | rfl | rfl | rfl | rfl | rfl <;> decide +kernel⟩

/-- Ids 64 and 0xFFFF, a FREE entry, entry 0, and a window of another master. -/
theorem test_premises_WindowCommandChecks : ∀ p ∈ windowRows,
    ((begs p.2 ⟨64, 0, 0, 0, 0⟩).Takes 3 [] ⟨p.2, ⟨64, 0, 0, 0, 0⟩⟩ ∧ 64 ≤ (64 : Word).toNat)
    ∧ ((begs p.2 ⟨63, 0, 0, 0, 0⟩).Takes 3 [] ⟨p.2, ⟨63, 0, 0, 0, 0⟩⟩
      ∧ ((begs p.2 ⟨63, 0, 0, 0, 0⟩).window 63).state = .free)
    ∧ ((begs p.2 .zero).Takes 3 [] ⟨p.2, .zero⟩ ∧ ((begs p.2 .zero).window 0).state ≠ .free)
    ∧ (begs p.2 ⟨1, 0, 0, 0, 0⟩).Takes 3 [] ⟨p.2, ⟨1, 0, 0, 0, 0⟩⟩
      ∧ ((begs p.2 ⟨1, 0, 0, 0, 0⟩).window 1).state ≠ .free ∧ ((begs p.2 ⟨1, 0, 0, 0, 0⟩).window 1).sponsor ≠ 3
      ∧ ((begs p.2 ⟨1, 0, 0, 0, 0⟩).master 3).supervisor = false :=
  fun p _ => ⟨⟨begs_takes _ _, by decide⟩, ⟨begs_takes _ _, show ((busy .request).window 63).state = _ by decide +kernel⟩,
    ⟨begs_takes _ _, show ((busy .request).window 0).state ≠ _ by decide +kernel⟩, begs_takes _ _,
    show ((busy .request).window 1).state ≠ _ by decide +kernel,
    show ((busy .request).window 1).sponsor ≠ 3 by decide +kernel,
    show ((busy .request).master 3).supervisor = _ by decide +kernel⟩

/-- Windows 2, 3, 5 and 4: HELD, DRAINING, SUSPENDED, ACTIVE. -/
theorem test_premises_WindowCommandStates : ∀ (code : Word) (w : WindowId), w = 2 ∨ w = 3 ∨ w = 4 ∨ w = 5 →
    (asks code ⟨BitVec.ofNat 16 w.val, 0, 0, 0, 0⟩).MayCommand 0 ⟨code, ⟨BitVec.ofNat 16 w.val, 0, 0, 0, 0⟩⟩ w
    ∧ ((busy .request).window 2).state = .held ∧ ((busy .request).window 3).state = .draining
    ∧ ((busy .request).window 4).state = .active ∧ ((busy .request).window 5).state = .suspended := by
  rintro code w (rfl | rfl | rfl | rfl) <;>
    exact ⟨asks_mayCommand _ (by decide +kernel) _ _ rfl, by decide +kernel⟩

/-- Operands out of range: space 0 and 3, layer 4 and 15, slot 16 and 31. -/
theorem test_premises_ClaimOutcome_operand : (asks 0x01 .zero).RangeLaw
    ∧ ∀ w0 : Word, w0 ∈ [0x0000, 0x0003, 0x0041, 0x00F1, 0x1001, 0x1F01] →
      (asks 0x01 ⟨w0, 0, 0, 0, 0⟩).Takes 0 [] ⟨0x01, ⟨w0, 0, 0, 0, 0⟩⟩
      ∧ (w0.toNat % 4 = 0 ∨ w0.toNat % 4 = 3 ∨ 4 ≤ w0.toNat / 16 % 16 ∨ 16 ≤ w0.toNat / 256 % 32) :=
  ⟨(asks_deviceLaws _ _).range, fun w0 h => ⟨asks_takes _ _, by
    simp only [List.mem_cons, List.not_mem_nil, or_false] at h
    rcases h with rfl | rfl | rfl | rfl | rfl | rfl <;> decide⟩⟩

/-- Bounds just broken and just kept: length 0, the base 4096, a range that ends at 4096 or past it, a target. -/
theorem test_premises_ClaimOutcome_range :
    (¬ InBounds 0 0 none ∧ ¬ InBounds 4096 1 none ∧ ¬ InBounds 1 4096 none ∧ ¬ InBounds 0 4097 none
      ∧ ¬ InBounds 0 2 (some 4095) ∧ ¬ InBounds 0 1 (some 4096))
    ∧ InBounds 0 4096 none ∧ InBounds 4095 1 (some 4095) ∧ InBounds 0 4096 (some 0) := by
  refine ⟨⟨fun h => ?_, fun h => ?_, fun h => ?_, fun h => ?_, fun h => ?_, fun h => ?_⟩, ⟨?_, ?_, ?_, ?_⟩, ⟨?_, ?_, ?_, ?_⟩,
    ⟨?_, ?_, ?_, ?_⟩⟩
  · have := h.lengthIn; omega
  · have := h.baseIn; omega
  · have := h.sumIn; omega
  · have := h.lengthIn; omega
  · have := h.targetIn 4095 rfl; omega
  · have := h.targetIn 4096 rfl; omega
  all_goals simp

/-- MEM, layer 1, slots 7 and 15, which are not ONLINE, with a range in bounds. -/
theorem test_premises_ClaimOutcome_slot : ∀ p : Word × SlotId, p = (0x0711, 7) ∨ p = (0x0F11, 15) →
    (asks 0x01 ⟨p.1, 528, 16, 0, 0⟩).Takes 0 [] ⟨0x01, ⟨p.1, 528, 16, 0, 0⟩⟩
    ∧ (p.1.toNat % 4 = 1 ∧ p.1.toNat / 16 % 16 = 1 ∧ p.1.toNat / 256 % 32 = p.2.val) ∧ InBounds 528 16 none
    ∧ ((asks 0x01 ⟨p.1, 528, 16, 0, 0⟩).slot p.2).state ≠ .online := by
  rintro p (rfl | rfl) <;>
    exact ⟨asks_takes _ _, by decide, (rangeOk_iff _ _ _).1 (by decide), by decide +kernel⟩

/-- The same on slot 5, which is ONLINE, at the last pending unit of the HELD window. -/
theorem test_premises_ClaimOutcome_overlap :
    (asks 0x01 ⟨0x0511, 527, 1, 0, 0⟩).Takes 0 [] ⟨0x01, ⟨0x0511, 527, 1, 0, 0⟩⟩
    ∧ (asks 0x01 ⟨0x0511, 527, 1, 0, 0⟩).RangeLaw ∧ InBounds 527 1 none
    ∧ ((asks 0x01 ⟨0x0511, 527, 1, 0, 0⟩).slot 5).state = .online
    ∧ (asks 0x01 ⟨0x0511, 527, 1, 0, 0⟩).Collides none .mem 1 527 1 :=
  ⟨asks_takes _ _, (asks_deviceLaws _ _).range, (rangeOk_iff _ _ _).1 (by decide), by decide +kernel,
    2, 527, nofun, by decide +kernel, by decide +kernel, by decide, by decide⟩

/-- And just past it, where the CLAIM is DONE in entry 7, the lowest that is FREE. -/
theorem test_premises_ClaimOutcome :
    (asks 0x01 ⟨0x0511, 528, 16, 0xFF03, 0⟩).Takes 0 [] ⟨0x01, ⟨0x0511, 528, 16, 0xFF03, 0⟩⟩
    ∧ (asks 0x01 ⟨0x0511, 528, 16, 0xFF03, 0⟩).RangeLaw
    ∧ ((0x0511 : Word).toNat % 4 = 1 ∧ (0x0511 : Word).toNat / 16 % 16 = 1 ∧ (0x0511 : Word).toNat / 256 % 32 = 5)
    ∧ InBounds 528 16 none ∧ ((asks 0x01 ⟨0x0511, 528, 16, 0xFF03, 0⟩).slot 5).state = .online
    ∧ ¬ (asks 0x01 ⟨0x0511, 528, 16, 0xFF03, 0⟩).Collides none .mem 1 528 16
    ∧ ((asks 0x01 ⟨0x0511, 528, 16, 0xFF03, 0⟩).window 7).state = .free
    ∧ ∀ v : WindowId, v ≠ 0 → v < 7 → ((asks 0x01 ⟨0x0511, 528, 16, 0xFF03, 0⟩).window v).state ≠ .free :=
  ⟨asks_takes _ _, (asks_deviceLaws _ _).range, by decide, (rangeOk_iff _ _ _).1 (by decide), by decide +kernel,
    not_collides (asks_deviceLaws _ _).range (by decide +kernel), by decide +kernel, by decide +kernel⟩

/-- The rack with no FREE entry, asked by master 0 for that window. -/
def crowded : State :=
  asking { rack with windows := (Vector.replicate 64 shifted).set 0 .directoryPort } 0 0x01 ⟨0x0511, 528, 16, 0, 0⟩

theorem test_premises_ClaimOutcome_full : crowded.Takes 0 [] ⟨0x01, ⟨0x0511, 528, 16, 0, 0⟩⟩ ∧ crowded.RangeLaw
    ∧ (crowded.slot 5).state = .online ∧ ¬ crowded.Collides none .mem 1 528 16
    ∧ ∀ w : WindowId, w ≠ 0 → (crowded.window w).state ≠ .free :=
  have range : crowded.RangeLaw := by decide +kernel
  ⟨asking_takes rfl _ _ _, range, by decide +kernel, not_collides range (by decide +kernel), by decide +kernel⟩

/-- Window 4 (base 2048, length 4, target 100) has a reference: lengths out of bounds, the greatest, the same, 1. -/
theorem test_premises_ResizeOutcome : ∀ length : Word,
    (asks 0x02 ⟨4, length, 0, 0, 0⟩).Takes 0 [] ⟨0x02, ⟨4, length, 0, 0, 0⟩⟩
    ∧ (asks 0x02 ⟨4, length, 0, 0, 0⟩).MayCommand 0 ⟨0x02, ⟨4, length, 0, 0, 0⟩⟩ 4
    ∧ (asks 0x02 ⟨4, length, 0, 0, 0⟩).window 4 = shifted ∧ (asks 0x02 ⟨4, length, 0, 0, 0⟩).RangeLaw
    ∧ (¬ InBounds 2048 0 (some 100) ∧ ¬ InBounds 2048 2049 (some 100) ∧ InBounds 2048 2048 (some 100)
      ∧ InBounds 2048 4 (some 100) ∧ InBounds 2048 1 (some 100))
    ∧ ¬ (asks 0x02 ⟨4, length, 0, 0, 0⟩).Collides (some 4) .mem 2 2048 2048
    ∧ (asks 0x02 ⟨4, length, 0, 0, 0⟩).Referenced 4 :=
  fun length => ⟨asks_takes _ _, asks_mayCommand 4 (by decide +kernel) _ _ rfl,
    show (busy .request).window 4 = shifted by decide +kernel, (asks_deviceLaws _ _).range,
    ⟨by rw [← rangeOk_iff]; decide +kernel, by rw [← rangeOk_iff]; decide +kernel,
      (rangeOk_iff _ _ _).1 (by decide +kernel), (rangeOk_iff _ _ _).1 (by decide +kernel),
      (rangeOk_iff _ _ _).1 (by decide +kernel)⟩,
    not_collides (asks_deviceLaws _ _).range
      (show 1 ≤ 2048 ∧ (busy .request).overlaps (some 4) .mem 2 2048 2048 = false by decide +kernel),
    .inl ⟨⟨3, 15, 4, 5, 2048, .waiting 16320⟩, show _ ∈ (busy .request).ort by decide +kernel, rfl⟩⟩

/-- The boot window has none, and may be shrunk to 1. -/
theorem test_premises_ResizeOutcome_free : (asks 0x02 ⟨1, 1, 0, 0, 0⟩).Takes 0 [] ⟨0x02, ⟨1, 1, 0, 0, 0⟩⟩
    ∧ (asks 0x02 ⟨1, 1, 0, 0, 0⟩).MayCommand 0 ⟨0x02, ⟨1, 1, 0, 0, 0⟩⟩ 1
    ∧ ((asks 0x02 ⟨1, 1, 0, 0, 0⟩).window 1).state = .active ∧ InBounds 0 1 none
    ∧ ¬ (asks 0x02 ⟨1, 1, 0, 0, 0⟩).Referenced 1 :=
  ⟨asks_takes _ _, asks_mayCommand 1 (by decide +kernel) _ _ rfl, by decide +kernel,
    (rangeOk_iff _ _ _).1 (by decide), (State.unreferenced_iff _ _).1 (by decide +kernel)⟩

/-- The rack with a fellow of window 2 at its layer, from unit 300; master 0 asks for a shape. -/
def close (code : Word) (words : Words) : State :=
  asking (rack.setWindow 3 { shifted with layer := 1, base := 300, target := none }) 0 code words

theorem close_takes (code : Word) (words : Words) : (close code words).Takes 0 [] ⟨code, words⟩ := asking_takes rfl _ _ _

theorem test_premises_ResizeOutcome_overlap : (close 0x02 ⟨2, 45, 0, 0, 0⟩).Takes 0 [] ⟨0x02, ⟨2, 45, 0, 0, 0⟩⟩
    ∧ (close 0x02 ⟨2, 45, 0, 0, 0⟩).MayCommand 0 ⟨0x02, ⟨2, 45, 0, 0, 0⟩⟩ 2
    ∧ (close 0x02 ⟨2, 45, 0, 0, 0⟩).RangeLaw ∧ InBounds 256 45 none
    ∧ (close 0x02 ⟨2, 45, 0, 0, 0⟩).Collides (some 2) .mem 1 256 45 :=
  ⟨close_takes _ _, ⟨by decide, by decide +kernel, by decide, .inr (by decide +kernel)⟩, by decide +kernel,
    (rangeOk_iff _ _ _).1 (by decide), 3, 300, by decide, by decide +kernel, by decide +kernel, by decide, by decide⟩

/-- Window 4 has a reference: slot fields 16 and 31, bases and targets about their bounds, slots 7 and 5. -/
theorem test_premises_MoveOutcome : ∀ base slot target : Word,
    (asks 0x03 ⟨4, base, slot, target, 0⟩).Takes 0 [] ⟨0x03, ⟨4, base, slot, target, 0⟩⟩
    ∧ (asks 0x03 ⟨4, base, slot, target, 0⟩).MayCommand 0 ⟨0x03, ⟨4, base, slot, target, 0⟩⟩ 4
    ∧ (asks 0x03 ⟨4, base, slot, target, 0⟩).window 4 = shifted
    ∧ (asks 0x03 ⟨4, base, slot, target, 0⟩).RangeLaw
    ∧ (16 ≤ (0x0010 : Word).toNat % 32 ∧ 16 ≤ (0x801F : Word).toNat % 32 ∧ (0xFFEF : Word).toNat % 32 = 15)
    ∧ (¬ InBounds 4093 4 none ∧ InBounds 4092 4 none ∧ ¬ InBounds 0 4 (some 4093) ∧ InBounds 0 4 (some 4092))
    ∧ ((asks 0x03 ⟨4, base, slot, target, 0⟩).slot 7).state ≠ .online
    ∧ ((asks 0x03 ⟨4, base, slot, target, 0⟩).slot 5).state = .online
    ∧ ¬ (asks 0x03 ⟨4, base, slot, target, 0⟩).Collides (some 4) .mem 2 4092 4
    ∧ (asks 0x03 ⟨4, base, slot, target, 0⟩).Referenced 4 :=
  fun base slot target => ⟨asks_takes _ _, asks_mayCommand 4 (by decide +kernel) _ _ rfl,
    show (busy .request).window 4 = shifted by decide +kernel, (asks_deviceLaws _ _).range, by decide,
    ⟨by rw [← rangeOk_iff]; decide +kernel, (rangeOk_iff _ _ _).1 (by decide +kernel),
      by rw [← rangeOk_iff]; decide +kernel, (rangeOk_iff _ _ _).1 (by decide +kernel)⟩,
    show ((busy .request).slot 7).state ≠ .online by decide +kernel,
    show ((busy .request).slot 5).state = .online by decide +kernel,
    not_collides (asks_deviceLaws _ _).range
      (show 1 ≤ 4 ∧ (busy .request).overlaps (some 4) .mem 2 4092 4 = false by decide +kernel),
    .inl ⟨⟨3, 15, 4, 5, 2048, .waiting 16320⟩, show _ ∈ (busy .request).ort by decide +kernel, rfl⟩⟩

/-- The boot window has none, and may be moved to unit 16 and slot 5. -/
theorem test_premises_MoveOutcome_free : (asks 0x03 ⟨1, 16, 5, 0, 0⟩).Takes 0 [] ⟨0x03, ⟨1, 16, 5, 0, 0⟩⟩
    ∧ (asks 0x03 ⟨1, 16, 5, 0, 0⟩).MayCommand 0 ⟨0x03, ⟨1, 16, 5, 0, 0⟩⟩ 1 ∧ InBounds 16 16 none
    ∧ ((asks 0x03 ⟨1, 16, 5, 0, 0⟩).slot 5).state = .online
    ∧ ¬ (asks 0x03 ⟨1, 16, 5, 0, 0⟩).Collides (some 1) .mem 3 16 16 ∧ ¬ (asks 0x03 ⟨1, 16, 5, 0, 0⟩).Referenced 1 :=
  ⟨asks_takes _ _, asks_mayCommand 1 (by decide +kernel) _ _ rfl, (rangeOk_iff _ _ _).1 (by decide), by decide +kernel,
    not_collides (asks_deviceLaws _ _).range (by decide +kernel), (State.unreferenced_iff _ _).1 (by decide +kernel)⟩

theorem test_premises_MoveOutcome_overlap : (close 0x03 ⟨2, 303, 3, 0, 0⟩).Takes 0 [] ⟨0x03, ⟨2, 303, 3, 0, 0⟩⟩
    ∧ (close 0x03 ⟨2, 303, 3, 0, 0⟩).MayCommand 0 ⟨0x03, ⟨2, 303, 3, 0, 0⟩⟩ 2
    ∧ (close 0x03 ⟨2, 303, 3, 0, 0⟩).RangeLaw ∧ InBounds 303 16 none
    ∧ ((close 0x03 ⟨2, 303, 3, 0, 0⟩).slot 3).state = .online
    ∧ (close 0x03 ⟨2, 303, 3, 0, 0⟩).Collides (some 2) .mem 1 303 16 :=
  ⟨close_takes _ _, ⟨by decide, by decide +kernel, by decide, .inr (by decide +kernel)⟩, by decide +kernel,
    (rangeOk_iff _ _ _).1 (by decide), by decide +kernel,
    3, 303, by decide, by decide +kernel, by decide +kernel, by decide, by decide⟩

/-- SUSPENDED window 5: layer 4, and layer 3, where it meets none. -/
theorem test_premises_RestackOutcome : ∀ layer : Word,
    (asks 0x04 ⟨5, layer, 0, 0, 0⟩).Takes 0 [] ⟨0x04, ⟨5, layer, 0, 0, 0⟩⟩
    ∧ (asks 0x04 ⟨5, layer, 0, 0, 0⟩).MayCommand 0 ⟨0x04, ⟨5, layer, 0, 0, 0⟩⟩ 5
    ∧ (asks 0x04 ⟨5, layer, 0, 0, 0⟩).window 5 = suspended ∧ (asks 0x04 ⟨5, layer, 0, 0, 0⟩).RangeLaw
    ∧ 4 ≤ (4 : Word).toNat ∧ (3 : Fin 4).val = (3 : Word).toNat
    ∧ ¬ (asks 0x04 ⟨5, layer, 0, 0, 0⟩).Collides (some 5) .io 3 16 16 :=
  fun layer => ⟨asks_takes _ _, asks_mayCommand 5 (by decide +kernel) _ _ rfl,
    show (busy .request).window 5 = suspended by decide +kernel, (asks_deviceLaws _ _).range, by decide, by decide,
    not_collides (asks_deviceLaws _ _).range
      (show 1 ≤ 16 ∧ (busy .request).overlaps (some 5) .io 3 16 16 = false by decide +kernel)⟩

/-- ACTIVE window 4 of the rack meets a fellow of its range at layer 1. -/
def stacked : State := asking (rack.setWindow 3 { shifted with layer := 1 }) 0 0x04 ⟨4, 1, 0, 0, 0⟩

theorem test_premises_RestackOutcome_overlap : stacked.Takes 0 [] ⟨0x04, ⟨4, 1, 0, 0, 0⟩⟩
    ∧ stacked.MayCommand 0 ⟨0x04, ⟨4, 1, 0, 0, 0⟩⟩ 4 ∧ (stacked.window 4).state = .active ∧ stacked.RangeLaw
    ∧ stacked.Collides (some 4) .mem 1 2048 4 :=
  ⟨asking_takes rfl _ _ _, ⟨by decide, by decide +kernel, by decide, .inr (by decide +kernel)⟩, by decide +kernel,
    by decide +kernel, 3, 2051, by decide, by decide +kernel, by decide +kernel, by decide, by decide⟩

theorem test_premises_GrantAndHandoverOutcome : ∀ (code word : Word),
    (asks code ⟨2, word, 0, 0, 0⟩).Takes 0 [] ⟨code, ⟨2, word, 0, 0, 0⟩⟩
    ∧ (asks code ⟨2, word, 0, 0, 0⟩).MayCommand 0 ⟨code, ⟨2, word, 0, 0, 0⟩⟩ 2
    ∧ ((busy .request).window 2).state ≠ .draining ∧ 8 ≤ (8 : Word).toNat ∧ (7 : MasterId).val = (7 : Word).toNat :=
  fun _ _ => ⟨asks_takes _ _, asks_mayCommand 2 (by decide +kernel) _ _ rfl, by decide +kernel, by decide,
    by decide⟩

/-- ACTIVE window 4 with a reference, SUSPENDED window 5 without. -/
theorem test_premises_RetireOutcome : (asks 0x07 ⟨4, 0, 0, 0, 0⟩).MayCommand 0 ⟨0x07, ⟨4, 0, 0, 0, 0⟩⟩ 4
    ∧ (asks 0x07 ⟨5, 0, 0, 0, 0⟩).MayCommand 0 ⟨0x07, ⟨5, 0, 0, 0, 0⟩⟩ 5
    ∧ (asks 0x07 .zero).Referenced 4 ∧ ¬ (asks 0x07 .zero).Referenced 5 ∧ (asks 0x07 .zero).WaitLaw :=
  ⟨asks_mayCommand 4 (by decide +kernel) _ _ rfl, asks_mayCommand 5 (by decide +kernel) _ _ rfl,
    .inl ⟨⟨3, 15, 4, 5, 2048, .waiting 16320⟩, by decide +kernel, rfl⟩,
    (State.unreferenced_iff _ _).1 (by decide +kernel), (asks_deviceLaws _ _).wait⟩

theorem test_premises_ReinstateOutcome : (asks 0x08 ⟨5, 0, 0, 0, 0⟩).Takes 0 [] ⟨0x08, ⟨5, 0, 0, 0, 0⟩⟩
    ∧ (asks 0x08 ⟨5, 0, 0, 0, 0⟩).MayCommand 0 ⟨0x08, ⟨5, 0, 0, 0, 0⟩⟩ 5
    ∧ ((asks 0x08 ⟨5, 0, 0, 0, 0⟩).window 5).state = .suspended :=
  ⟨asks_takes _ _, asks_mayCommand 5 (by decide +kernel) _ _ rfl, by decide +kernel⟩

theorem test_premises_RegistryCommandAuthority : ∀ p ∈ registryRows, (begs p.2 .zero).Takes 3 [] ⟨p.2, .zero⟩
    ∧ ((begs p.2 .zero).master 3).supervisor = false :=
  fun _ _ => ⟨begs_takes _ _, show ((busy .request).master 3).supervisor = _ by decide +kernel⟩

/-- The issuer of a Registry command or a TUNE: a supervisor, and not one; the slots ABSENT, OFFLINE and ONLINE. -/
theorem test_premises_registry (code : Word) (words : Words) :
    ((asks code words).Takes 0 [] ⟨code, words⟩ ∧ ((asks code words).master 0).supervisor = true
      ∧ (asks code words).WaitLaw ∧ ((asks code words).slot 15).state = .absent
      ∧ ((asks code words).slot 7).state = .offline ∧ ((asks code words).slot 3).state = .online
      ∧ ((asks code words).slot 0).state = .online)
    ∧ (begs code words).Takes 3 [] ⟨code, words⟩ ∧ ((begs code words).master 3).supervisor = false :=
  ⟨⟨asks_takes _ _, show ((busy .request).master 0).supervisor = _ by decide +kernel, (asks_deviceLaws _ _).wait,
      show ((busy .request).slot 15).state = _ by decide +kernel,
      show ((busy .request).slot 7).state = _ by decide +kernel,
      show ((busy .request).slot 3).state = _ by decide +kernel,
      show ((busy .request).slot 0).state = _ by decide +kernel⟩, begs_takes _ _,
    show ((busy .request).master 3).supervisor = _ by decide +kernel⟩

/-- Slot 16, limits 0 and 256; slot 15, limits 1 and 255. -/
theorem test_premises_SetSlotOutcome : 16 ≤ (16 : Word).toNat ∧ (0 : Word).toNat = 0 ∧ 256 ≤ (256 : Word).toNat
    ∧ (15 : Word).toNat = (15 : SlotId).val ∧ 1 ≤ (1 : Word).toNat ∧ (255 : Word).toNat ≤ 255 := by decide

/-- Slots 15, 7 and 0 are those of `test_premises_registry`. -/
theorem test_premises_SlotOnlineOutcome : 16 ≤ (16 : Word).toNat ∧ (15 : Word).toNat = (15 : SlotId).val
    ∧ (7 : Word).toNat = (7 : SlotId).val ∧ (0 : Word).toNat = (0 : SlotId).val := by decide

/-- Slots 15, 7 and 3 are those of `test_premises_registry`. -/
theorem test_premises_SlotOfflineOutcome : 16 ≤ (16 : Word).toNat ∧ (15 : Word).toNat = (15 : SlotId).val
    ∧ (7 : Word).toNat = (7 : SlotId).val ∧ (3 : Word).toNat = (3 : SlotId).val ∧ (0 : Word).toNat = 0 := by decide

/-- Master 8; master 0, the last supervisor, disabled; master 7, with no command queued, made a supervisor. -/
theorem test_premises_SetMasterOutcome : 8 ≤ (8 : Word).toNat
    ∧ (¬ ∃ n, (((asks 0x13 ⟨0, 2, 0, 0, 0⟩).setMaster 0 ⟨false, true⟩).master n).enabled = true
        ∧ (((asks 0x13 ⟨0, 2, 0, 0, 0⟩).setMaster 0 ⟨false, true⟩).master n).supervisor = true)
    ∧ (∃ n, (((asks 0x13 ⟨7, 3, 0, 0, 0⟩).setMaster 7 ⟨true, true⟩).master n).enabled = true
        ∧ (((asks 0x13 ⟨7, 3, 0, 0, 0⟩).setMaster 7 ⟨true, true⟩).master n).supervisor = true)
    ∧ (7 : Word).toNat = (7 : MasterId).val ∧ ((asks 0x13 ⟨7, 3, 0, 0, 0⟩).context 7).state ≠ .queued := by
  decide +kernel

/-- Master 0's SET MASTER heads the queue, and master 3 waits behind it. -/
def disables : State :=
  { (asks 0x13 ⟨3, 2, 0, 0, 0⟩).setContext 3 ⟨.queued, .zero, some ⟨1, .zero⟩, .none, .zero, true, none⟩ with
    queue := [0, 3] }

theorem test_premises_SetMasterOutcome_disables : disables.Takes 0 [3] ⟨0x13, ⟨3, 2, 0, 0, 0⟩⟩
    ∧ (disables.master 0).supervisor = true ∧ (disables.context 3).state = .queued
    ∧ ((disables.setMaster 3 ⟨false, true⟩).master 0).enabled = true
    ∧ ((disables.setMaster 3 ⟨false, true⟩).master 0).supervisor = true :=
  ⟨⟨rfl, rfl, by decide +kernel⟩, by decide +kernel⟩

theorem test_premises_TuneOutcome : 16 ≤ (16 : Word).toNat ∧ 10 ≤ (10 : Word).toNat ∧ (15 : Word).toNat ≤ 15
    ∧ (9 : Word).toNat ≤ 9 ∧ (9 : Word).toNat = (7 : Fin 8).val + 2 ∧ (2 : Word).toNat = (0 : Fin 8).val + 2 := by
  decide

/-- Every kind, number and page: the laws hold whatever the operands; windows HELD, waiting, with and without
entries; reasons raised and clear. -/
theorem test_premises_InspectOutcome : (∀ words : Words, (asks 0x18 words).Takes 0 [] ⟨0x18, words⟩
      ∧ (asks 0x18 words).DeviceLaws)
    ∧ (((asks 0x18 .zero).window 2).change.isSome = true ∧ ((asks 0x18 .zero).window 63).change = none)
    ∧ (((asks 0x18 .zero).window 2).waiting = some 1 ∧ ((asks 0x18 .zero).window 63).waiting = none)
    ∧ (((asks 0x18 .zero).ort.filter fun e => e.window == 4)[0]?.isSome = true
      ∧ ((asks 0x18 .zero).ort.filter fun e => e.window == 4)[31]? = none)
    ∧ (asks 0x18 .zero).attention.suspended.subject = some 5 ∧ (asks 0x18 .zero).attention.slotLost.raised = false :=
  ⟨fun _ => ⟨asks_takes _ _, asks_deviceLaws _ _⟩, by decide +kernel⟩

/-- Spaces, kinds, masters and units out of range; every state of a top window; the port; a unit that no window
covers; a disabled master. -/
theorem test_premises_ResolveOutcome : (∀ words : Words, (asks 0x19 words).Takes 0 [] ⟨0x19, words⟩)
    ∧ (asks 0x19 .zero).RangeLaw
    ∧ ((0x0010 : Word).toNat % 4 = 0 ∧ (0x0033 : Word).toNat % 4 = 3 ∧ (0x0031 : Word).toNat / 16 % 4 = 3
      ∧ 8 ≤ (0x0811 : Word).toNat / 256 % 16 ∧ 4096 ≤ (4096 : Word).toNat)
    ∧ (((asks 0x19 .zero).master 7).enabled = false ∧ ((asks 0x19 .zero).master 0).enabled = true)
    ∧ (∀ w, ((asks 0x19 .zero).window w).covers .mem 4095 = false)
    ∧ ((asks 0x19 .zero).IsTop .io 31 5 ∧ (asks 0x19 .zero).IsTop .mem 527 2 ∧ (asks 0x19 .zero).IsTop .mem 1024 3)
    ∧ ((asks 0x19 .zero).IsTop .mem 2051 4 ∧ ((asks 0x19 .zero).window 4).allows 3 .read
      ∧ ¬ ((asks 0x19 .zero).window 4).allows 4 .read)
    ∧ (asks 0x19 .zero).IsTop .io 4095 0 ∧ ((asks 0x19 .zero).window 0).allows 0 .read :=
  ⟨fun _ => asks_takes _ _, (asks_deviceLaws _ _).range, by decide, by decide +kernel, by decide +kernel,
    ⟨isTop_of_table (by decide +kernel), isTop_of_table (by decide +kernel), isTop_of_table (by decide +kernel)⟩,
    ⟨isTop_of_table (by decide +kernel),
      show ((asks 0x19 .zero).window 4).readSet.getLsbD 3 = true by decide +kernel,
      show ¬ (((asks 0x19 .zero).window 4).readSet.getLsbD 4 = true) by decide +kernel⟩,
    isTop_of_table (by decide +kernel), show ((asks 0x19 .zero).window 0).readSet.getLsbD 0 = true by decide +kernel⟩

/-! ### The laws -/

/-- A state of the laws, with an INSPECT in front, whose step answers a next state. -/
def steps : State := { asks 0x18 ⟨4, 0, 0, 0, 0⟩ with pending := [.inspect] }

theorem steps_deviceLaws : steps.DeviceLaws :=
  have h := asks_deviceLaws 0x18 ⟨4, 0, 0, 0, 0⟩
  ⟨h.port, h.cleared, h.range, h.overlap, h.service, h.strike,
    ⟨h.wait.change_iff_held, h.wait.held_waits, h.wait.waiting_state, h.wait.named, h.wait.waits_on,
      h.wait.held_command, h.wait.draining_command⟩,
    ⟨h.queue.nodup, h.queue.queued, h.queue.not_active, h.queue.captured, h.queue.result⟩, h.enabled, h.supervisor,
    h.ort, h.faultQueue, h.mastership, ⟨h.reserved.of_entry, h.reserved.of_cycle⟩,
    ⟨h.reference.entry, h.reference.cycle⟩, ⟨h.slots.slot_zero, h.slots.absent, h.slots.limits⟩, h.presence, h.clock,
    h.attention, h.lines, h.init⟩

theorem steps_proceeds : steps.Proceeds := ⟨_, rfl⟩

theorem test_premises_DeviceLawsKept : steps.DeviceLaws ∧ steps.Proceeds := ⟨steps_deviceLaws, steps_proceeds⟩

theorem test_premises_CommandLawsKept : steps.QueueLaw ∧ steps.WaitLaw ∧ steps.Proceeds :=
  ⟨steps_deviceLaws.queue, steps_deviceLaws.wait, steps_proceeds⟩

theorem test_premises_ReadTrackerLawsKept : steps.OrtLaw ∧ steps.FaultQueueLaw ∧ steps.MastershipLaw ∧ steps.ReservedLaw
    ∧ steps.Proceeds :=
  ⟨steps_deviceLaws.ort, steps_deviceLaws.faultQueue, steps_deviceLaws.mastership, steps_deviceLaws.reserved,
    steps_proceeds⟩

theorem test_premises_RegistryAndAttentionLawsKept : steps.SlotLaw ∧ steps.PresenceLaw ∧ steps.SupervisorLaw
    ∧ steps.AttentionLaw ∧ steps.Proceeds :=
  ⟨steps_deviceLaws.slots, steps_deviceLaws.presence, steps_deviceLaws.supervisor, steps_deviceLaws.attention,
    steps_proceeds⟩

/-! ## Single steps from the spec's examples and rules -/

/-- The command answers a next state with this property. -/
def leaves (i : Instr) (s : State) (p : State → Bool) : Bool :=
  match exec i s with
  | .next t => p t
  | .fault _ => false
  | .refused _ => false

theorem test_occupancy_after_reset : leaves (.addressPhase (.io 0xFFFE) 0 .read .word) State.reset
    (fun t => t.shown.data = some 62 && t.lines = .idle) = true := by decide +kernel

/-- R46: a late acknowledge belongs to no cycle, and the cycle that is current by then runs on. -/
theorem test_stray_accept_ignored : leaves (.strayAcknowledge .accept) (busy .cycle) (· = busy .cycle) = true := by
  decide +kernel

/-- R70: VOID is asserted through an orphan reply and released at its end. -/
theorem test_void_released : leaves (.replyCycle 7 15 5 0 .ok) (busy .request)
    (fun t => t.shown.void && t.lines = .idle) = true := by decide +kernel

/-- The table of 3.9. -/
def sixPhases : State :=
  let cards := ((((State.reset.slots.set 3 (card .directed)).set 6 (card .directed)).set 5 (card .selfDecoding)).set 9
    (card .selfDecoding))
  { State.reset with
    slots := cards
    windows := ((State.reset.windows.set 2 ⟨.active, .mem, 0, 256, 0, 3, 0x03, 0x03, none, 0, 0, none, none⟩).set 3
        ⟨.active, .io, 32, 2, 0, 5, 0x01, 0x01, some 0, 0, 0, none, none⟩).set 4
        ⟨.held, .mem, 512, 64, 1, 6, 0x04, 0x04, none, 0, 0, some ⟨576, 64, 6, none⟩, some 7⟩
    ort := [⟨2, 0, 4, 6, 530, .waiting 64⟩] }

/-- The lines of a cycle: SEL, the quieted slots, LOF, AST; they stand while the cycle is current. -/
def shows (t : State) (sel : Option SlotId) (quiet : List SlotId) (lof : Option (BitVec 12)) (ast : AstLines) : Bool :=
  t.shown.sel = sel && (List.finRange 16).filter (fun k => t.shown.qt[k]) = quiet && t.shown.lof = lof && t.shown.ast = ast
    && t.lines = if t.current = none then .idle else t.shown

theorem test_phase_1_selected : leaves (.addressPhase (.mem 0x004010) 1 .read .word) sixPhases (fun t =>
    shows t (some 0) [5, 9] (some 4) .released && t.current = some ⟨1, .read, 1, 0, 40⟩) = true := by decide +kernel

theorem test_phase_2_denied : leaves (.addressPhase (.mem 0x004010) 1 (.write 7) .word) sixPhases (fun t =>
    shows t none [5, 9] none (.byPart .denied)) = true := by decide +kernel

theorem test_phase_3_reserves : leaves (.addressPhase (.mem 0x020000) 0 (.splitRead 3) .word) sixPhases (fun t =>
    shows t (some 3) [5, 9] (some 32) .released
      && t.ort = [⟨2, 0, 4, 6, 530, .waiting 64⟩, ⟨0, 3, 2, 3, 32, .reserved⟩]) = true := by decide +kernel

theorem test_phase_4_self_card : leaves (.addressPhase (.io 0x0214) 0 .read .word) sixPhases (fun t =>
    shows t none [9] (some 1) .released) = true := by decide +kernel

theorem test_phase_5_held : leaves (.addressPhase (.mem 0x208000) 2 .read .word) sixPhases (fun t =>
    shows t none [5, 9] none (.byPart .retry)) = true := by decide +kernel

theorem test_phase_6_odd_port : leaves (.addressPhase (.io 0xFFF3) 0 (.write 7) .word) sixPhases (fun t =>
    shows t none [5, 9] none (.byPart .denied) && t.contexts = sixPhases.contexts) = true := by decide +kernel

/-- 11.2 before event 6: the last reference of the HELD window 3 is the fault reply under way. -/
def relocation : State :=
  { State.reset with
    slots := State.reset.slots.set 4 (card .directed)
    windows := State.reset.windows.set 3
      ⟨.held, .mem, 512, 64, 0, 4, 0xFF, 0xFF, some 0, 0, 0, some ⟨1024, 64, 4, some 0⟩, some 0⟩
    contexts := State.reset.contexts.set 0 (waitingOn 3 ⟨3, ⟨3, 1024, 0x8004, 0, 0⟩⟩)
    ort := [⟨3, 4, 3, 4, 540, .expired .silent⟩]
    faultQueue := [(3, 4)]
    mastership := .holding }

theorem test_fault_reply_end_applies_move : leaves .faultReplyEnd relocation (fun t =>
    t.ort = [] && t.mastership = .idle
      && t.window 3 = ⟨.active, .mem, 1024, 64, 0, 4, 0xFF, 0xFF, some 0, 0, 0, none, none⟩
      && t.context 0 = ⟨.complete, .zero, none, .done, ⟨3, 1024, 64, 4, 0x8000⟩, false, none⟩) = true := by
  decide +kernel

/-- 11.3 before the card in slot 6 is pulled. -/
def pulled : State :=
  { State.reset with
    slots := (((State.reset.slots.set 2 (card .directed)).set 3 (card .directed)).set 6 (card .directed)).set 11
      (card .directed)
    windows := (((((State.reset.windows.set 2 ⟨.active, .mem, 0, 1024, 0, 2, 0xFF, 0xFF, none, 0, 0, none, none⟩).set 8
        ⟨.active, .mem, 256, 32, 1, 6, 0xFF, 0xFF, none, 0, 0, none, none⟩).set 9
        ⟨.active, .io, 64, 1, 0, 6, 0xFF, 0xFF, none, 0, 0, none, none⟩).set 12
        ⟨.held, .mem, 1100, 16, 0, 6, 0xFF, 0xFF, none, 5, 0, some ⟨1100, 16, 11, none⟩, some 5⟩).set 13
        ⟨.active, .mem, 2000, 16, 0, 3, 0xFF, 0xFF, none, 0, 0, none, none⟩)
    contexts := State.reset.contexts.set 5 (waitingOn 12 ⟨3, ⟨12, 1100, 11, 0, 0⟩⟩)
    current := some ⟨2, .read, 8, 6, 40⟩
    ort := [⟨6, 3, 13, 3, 2000, .expired .silent⟩, ⟨0, 2, 8, 6, 256, .waiting 9⟩, ⟨5, 1, 12, 6, 1100, .waiting 9⟩,
      ⟨4, 7, 8, 6, 256, .waiting 9⟩]
    faultQueue := [(6, 3)]
    mastership := .requesting
    selection := some 1
    pins := ⟨false, (((Vector.replicate 16 false).set 2 true).set 3 true).set 6 true, Vector.replicate 16 .directed⟩ }

theorem test_card_pulled_windows : leaves (.presenceLoss 6) pulled (fun t =>
    (t.window 8).state = .draining && t.window 9 = .cleared
      && t.window 12 = ⟨.draining, .mem, 1100, 16, 0, 6, 0xFF, 0xFF, none, 5, 0, none, none⟩
      && t.context 5 = ⟨.complete, .zero, none, .withdrawn, ⟨12, 0, 0, 0, 0⟩, false, none⟩
      && t.slot 6 = ⟨false, .absent, .directed, 40, 64⟩) = true := by decide +kernel

theorem test_card_pulled_reads : leaves (.presenceLoss 6) pulled (fun t =>
    t.ort.map (·.state) = [.expired .silent, .expired .withdrawn, .expired .withdrawn, .expired .withdrawn]
      && t.faultQueue = [(6, 3), (0, 2), (5, 1), (4, 7)] && t.mastership = .requesting && t.current = none
      && t.shown.ast = .byPart .withdrawn && t.lines = .idle && t.attention.slotLost = ⟨true, some 6, 1⟩ && t.atnAsserted 1) = true := by
  decide +kernel

/-- 11.5 event 1: the strike that reaches a limit of 2 suspends window 15 and asserts ATN3. -/
theorem test_deadline_suspends : leaves (.deadlineExpiry 1 9)
    { State.reset with
      slots := State.reset.slots.set 10 (card .directed)
      windows := State.reset.windows.set 15 ⟨.active, .mem, 3072, 16, 0, 10, 0xFF, 0xFF, none, 1, 1, none, none⟩
      ort := [⟨1, 9, 15, 10, 3072, .waiting 0⟩]
      strikeLimit := 2
      selection := some 3 }
    (fun t => (t.window 15).state = .suspended && (t.window 15).strikes = 2
      && t.attention.suspended = ⟨true, some 15, 1⟩ && t.atnAsserted 3 && t.faultQueue = [(1, 9)]
      && t.mastership = .requesting) = true := by decide +kernel

/-- 6.12 event 1: SLOT OFFLINE of slot 4. -/
theorem test_slot_offline_drains : leaves .slotOffline
    (asking
      { State.reset with
        slots := (State.reset.slots.set 4 (card .directed)).set 7 (card .directed)
        windows := ((State.reset.windows.set 9 ⟨.active, .mem, 100, 1, 0, 4, 0xFF, 0xFF, none, 0, 0, none, none⟩).set 12
          ⟨.active, .io, 100, 1, 0, 4, 0xFF, 0xFF, none, 0, 0, none, none⟩).set 14
          ⟨.held, .mem, 200, 1, 0, 7, 0xFF, 0xFF, none, 3, 0, some ⟨300, 1, 4, none⟩, some 3⟩
        contexts := State.reset.contexts.set 3 (waitingOn 14 ⟨3, ⟨14, 300, 4, 0, 0⟩⟩)
        ort := [⟨2, 5, 9, 4, 100, .waiting 9⟩, ⟨1, 0, 14, 7, 200, .waiting 9⟩] } 0 0x12 ⟨4, 0, 0, 0, 0⟩)
    (fun t => (t.slot 4).state = .offline && (t.window 9).state = .draining && t.window 12 = .cleared
      && t.window 14 = ⟨.active, .mem, 200, 1, 0, 7, 0xFF, 0xFF, none, 3, 0, none, none⟩
      && (t.context 3).result = .badSlot && (t.context 0).results = ⟨4, 1, 2, 0, 0⟩) = true := by decide +kernel

/-- 2.8.1: a CLAIM over the pending range of the HELD window 6, at its layer and at another. -/
def twoRanges (layer : Word) : State :=
  asking
    { State.reset with
      windows := State.reset.windows.set 6
        ⟨.held, .mem, 64, 16, 0, 0, 0xFF, 0xFF, none, 0, 0, some ⟨128, 16, 0, none⟩, some 7⟩ } 0 0x01
    ⟨0x0001 + 16 * layer, 136, 8, 0, 0⟩

theorem test_claim_over_pending_range : leaves .claim (twoRanges 0) (fun t => (t.context 0).result = .overlap) = true := by
  decide +kernel

theorem test_claim_at_another_layer : leaves .claim (twoRanges 1) (fun t =>
    (t.context 0).result = .done && (t.window 2).base = 136) = true := by decide +kernel

end Sys2Proof.Tests
end

section
/-!
PROOFS. The laws of the Read Tracker (O57): what each operation of the part does to the outstanding-read table, the
fault-reply queue, the mastership state and the current cycle, and that every step keeps the four laws.
-/
namespace Sys2Proof.Machine

variable {s t : State}

/-! ## The four fields that the laws read -/

/-- The part of the state that the laws of the Read Tracker read. -/
structure Tracker where
  ort : List OrtEntry
  faultQueue : List (MasterId × Tag)
  mastership : Mastership
  current : Option CurrentCycle

/-- The Read Tracker's part of a state, with the current cycle. -/
def State.tracker (s : State) : Tracker := ⟨s.ort, s.faultQueue, s.mastership, s.current⟩

theorem State.tracker_eq_iff :
    t.tracker = s.tracker ↔ t.ort = s.ort ∧ t.faultQueue = s.faultQueue ∧ t.mastership = s.mastership
      ∧ t.current = s.current := by
  simp [State.tracker]

/-- The laws of the Read Tracker together. -/
structure State.TrackerLaws (s : State) : Prop where
  ort : s.OrtLaw
  faultQueue : s.FaultQueueLaw
  mastership : s.MastershipLaw
  reserved : s.ReservedLaw

/-- An event that leaves the four fields alone keeps the laws. -/
theorem State.TrackerLaws.of_tracker (h : s.TrackerLaws) (ht : t.tracker = s.tracker) : t.TrackerLaws := by
  obtain ⟨hort, hqueue, hmast, hcur⟩ := State.tracker_eq_iff.1 ht
  refine ⟨?_, ?_, ?_, ?_, ?_⟩
  · simpa only [State.OrtLaw, hort] using h.ort
  · simpa only [State.FaultQueueLaw, hort, hqueue] using h.faultQueue
  · simpa only [State.MastershipLaw, hqueue, hmast, hcur] using h.mastership
  · simpa only [hort, hcur] using h.reserved.of_entry
  · simpa only [hort, hcur] using h.reserved.of_cycle

/-! ## Operations that leave the four fields alone -/

section Frame

variable (s)

@[simp] theorem State.tracker_setWindow (w : WindowId) (r : Window) : (s.setWindow w r).tracker = s.tracker := rfl
@[simp] theorem State.tracker_setContext (m : MasterId) (c : Context) : (s.setContext m c).tracker = s.tracker := rfl
@[simp] theorem State.tracker_setSlot (k : SlotId) (r : SlotRecord) : (s.setSlot k r).tracker = s.tracker := rfl
@[simp] theorem State.tracker_setMaster (m : MasterId) (r : MasterRecord) :
    (s.setMaster m r).tracker = s.tracker := rfl
@[simp] theorem State.tracker_movePrs (k : SlotId) (b : Bool) : (s.movePrs k b).tracker = s.tracker := rfl
@[simp] theorem State.tracker_moveMode (k : SlotId) (mode : Mode) : (s.moveMode k mode).tracker = s.tracker := rfl
@[simp] theorem State.tracker_releaseLines (l : Lines) : (s.releaseLines l).tracker = s.tracker := rfl
@[simp] theorem State.tracker_raise (r : Reason) (n : Nat) : (s.raise r n).tracker = s.tracker := rfl
@[simp] theorem State.tracker_complete (m : MasterId) (code : ResultCode) (ws : Words) :
    (s.complete m code ws).tracker = s.tracker := rfl
@[simp] theorem State.tracker_refuse (m : MasterId) (code : ResultCode) : (s.refuse m code).tracker = s.tracker := rfl
@[simp] theorem State.tracker_done (m : MasterId) (ws : Words) : (s.done m ws).tracker = s.tracker := rfl
@[simp] theorem State.tracker_awaitWindow (m : MasterId) (w : WindowId) (win : Window) :
    (s.awaitWindow m w win).tracker = s.tracker := rfl
@[simp] theorem State.tracker_answer (status : Status) : (s.answer status).tracker = s.tracker := rfl
@[simp] theorem State.tracker_serve (data : Option Word) : (s.serve data).tracker = s.tracker := rfl
@[simp] theorem State.tracker_taking (m : MasterId) (rest : List MasterId) :
    (s.taking m rest).tracker = s.tracker := rfl
@[simp] theorem State.tracker_strike (w : WindowId) : (s.strike w).tracker = s.tracker := by simp [State.tracker]
@[simp] theorem State.tracker_strikeClear (w : WindowId) : (s.strikeClear w).tracker = s.tracker := by
  simp [State.tracker]
@[simp] theorem State.tracker_drainCheck (w : WindowId) : (s.drainCheck w).tracker = s.tracker := by
  simp [State.tracker]
@[simp] theorem State.tracker_forceDrain (k : SlotId) : (s.forceDrain k).tracker = s.tracker := by
  simp [State.tracker]

@[simp] theorem State.tracker_release (prs mode : BitVec 16) : (s.release prs mode).tracker = s.tracker := by
  simp [State.tracker, State.release, State.initRegistry]

/-! ### Port writes -/

@[simp] theorem State.tracker_goWrite (m : MasterId) (code : Word) : (s.goWrite m code).tracker = s.tracker := by
  unfold State.goWrite
  split
  · unfold State.abandonWrite
    dsimp only
    split
    · rfl
    · split <;> rfl
    · rfl
  · unfold State.goAccept
    dsimp only
    split <;> rfl

@[simp] theorem State.tracker_attentionWrite (m : MasterId) (data : Word) :
    (s.attentionWrite m data).tracker = s.tracker := by
  unfold State.attentionWrite
  split <;> rfl

@[simp] theorem State.tracker_portWrite (m : MasterId) (data : Word) (port : Port) :
    (s.portWrite m data port).tracker = s.tracker := by
  cases port with
  | context => exact s.tracker_goWrite m data
  | word n => rfl
  | attention => exact s.tracker_attentionWrite m data
  | occupancy => rfl

@[simp] theorem State.tracker_portPhase (a : BusAddress) (m : MasterId) (kind : CycleKind) (width : Width) :
    (s.portPhase a m kind width).tracker = s.tracker := by
  unfold State.portPhase
  split
  · split <;> simp
  · split <;> simp
  · simp

/-! ### The engine's takes -/

theorem State.tracker_windowCommand {s : State} (m : MasterId) (id : Word) {own : WindowId → State}
    (h : ∀ w, (own w).tracker = s.tracker) : (s.windowCommand m id own).tracker = s.tracker := by
  unfold State.windowCommand
  split
  · rfl
  · exact h _

theorem State.tracker_registryCommand {s : State} (m : MasterId) {own : State} (h : own.tracker = s.tracker) :
    (s.registryCommand m own).tracker = s.tracker := by
  unfold State.registryCommand
  split
  · exact h
  · rfl

/-- A take whose effect leaves the four fields alone leaves them alone. -/
theorem State.take_tracker {s t : State} {named : Word → Bool} {effect : MasterId → Captured → State → State}
    (he : ∀ m cmd a, (effect m cmd a).tracker = a.tracker) (h : s.take named effect = .next t) :
    t.tracker = s.tracker := by
  obtain ⟨-, rfl⟩ | ⟨m, rest, cmd, -, -, rfl⟩ := State.take_next h
  · rfl
  · rw [he, State.tracker_taking]

theorem tracker_badCommandEffect (m : MasterId) (cmd : Captured) (s : State) :
    (badCommandEffect m cmd s).tracker = s.tracker := rfl

theorem tracker_claimEffect (m : MasterId) (cmd : Captured) (s : State) :
    (claimEffect m cmd s).tracker = s.tracker := by
  unfold claimEffect
  split
  · rfl
  · split
    · rfl
    · split
      · rfl
      · split
        · rfl
        · split <;> rfl

theorem tracker_resizeEffect (m : MasterId) (cmd : Captured) (s : State) :
    (resizeEffect m cmd s).tracker = s.tracker := by
  have own (w : WindowId) (length : Nat) : (s.resizeWindow m w length).tracker = s.tracker := by
    unfold State.resizeWindow
    dsimp only
    split <;> rfl
  refine State.tracker_windowCommand m _ fun w => ?_
  dsimp only
  cases (s.window w).state with
  | active =>
    dsimp only
    split
    · rfl
    · split
      · rfl
      · exact own w _
  | held | draining | suspended | free => rfl

theorem tracker_moveEffect (m : MasterId) (cmd : Captured) (s : State) :
    (moveEffect m cmd s).tracker = s.tracker := by
  have own (w : WindowId) (c : PendingChange) : (s.moveWindow m w c).tracker = s.tracker := by
    unfold State.moveWindow
    dsimp only
    split <;> rfl
  refine State.tracker_windowCommand m _ fun w => ?_
  dsimp only
  cases (s.window w).state with
  | active =>
    dsimp only
    split
    · rfl
    · split
      · rfl
      · split
        · rfl
        · split
          · rfl
          · exact own w _
  | held | draining | suspended | free => rfl

theorem tracker_restackEffect (m : MasterId) (cmd : Captured) (s : State) :
    (restackEffect m cmd s).tracker = s.tracker := by
  have own (w : WindowId) : (s.restackWindow m w cmd.words.w1).tracker = s.tracker := by
    unfold State.restackWindow
    dsimp only
    split
    · rfl
    · split <;> rfl
  refine State.tracker_windowCommand m _ fun w => ?_
  split <;> simp [own]

theorem tracker_grantEffect (m : MasterId) (cmd : Captured) (s : State) :
    (grantEffect m cmd s).tracker = s.tracker := by
  refine State.tracker_windowCommand m _ fun w => ?_
  split <;> rfl

theorem tracker_handoverEffect (m : MasterId) (cmd : Captured) (s : State) :
    (handoverEffect m cmd s).tracker = s.tracker := by
  have own (w : WindowId) : (s.handoverWindow m w cmd.words.w1).tracker = s.tracker := by
    unfold State.handoverWindow
    split <;> rfl
  refine State.tracker_windowCommand m _ fun w => ?_
  split <;> simp [own]

theorem tracker_retireEffect (m : MasterId) (cmd : Captured) (s : State) :
    (retireEffect m cmd s).tracker = s.tracker := by
  have own (w : WindowId) : (s.retireWindow m w).tracker = s.tracker := by
    unfold State.retireWindow
    dsimp only
    split <;> simp
  refine State.tracker_windowCommand m _ fun w => ?_
  split <;> simp [own]

theorem tracker_reinstateEffect (m : MasterId) (cmd : Captured) (s : State) :
    (reinstateEffect m cmd s).tracker = s.tracker := by
  refine State.tracker_windowCommand m _ fun w => ?_
  split <;> rfl

theorem tracker_setSlotEffect (m : MasterId) (cmd : Captured) (s : State) :
    (setSlotEffect m cmd s).tracker = s.tracker := by
  refine State.tracker_registryCommand m ?_
  split
  · rfl
  · split <;> rfl

theorem tracker_slotOnlineEffect (m : MasterId) (cmd : Captured) (s : State) :
    (slotOnlineEffect m cmd s).tracker = s.tracker := by
  refine State.tracker_registryCommand m ?_
  split
  · rfl
  · split <;> rfl

theorem tracker_slotOfflineEffect (m : MasterId) (cmd : Captured) (s : State) :
    (slotOfflineEffect m cmd s).tracker = s.tracker := by
  refine State.tracker_registryCommand m ?_
  split
  · rfl
  · split
    · rfl
    · split <;> simp

theorem tracker_setMasterEffect (m : MasterId) (cmd : Captured) (s : State) :
    (setMasterEffect m cmd s).tracker = s.tracker := by
  have own (k : MasterId) (r : MasterRecord) : (s.writeMaster k r).tracker = s.tracker := by
    unfold State.writeMaster State.withdrawQueued
    split
    · rfl
    · split <;> rfl
  refine State.tracker_registryCommand m ?_
  split
  · rfl
  · dsimp only
    split <;> simp [own]

theorem tracker_tuneEffect (m : MasterId) (cmd : Captured) (s : State) :
    (tuneEffect m cmd s).tracker = s.tracker := by
  have strikes (limit : Nat) : (s.tuneStrikes limit).tracker = s.tracker := by
    unfold State.tuneStrikes
    split <;> simp [State.tracker]
  have selection (a : State) (sel : SelectionOperand) : (a.tuneSelection sel).tracker = a.tracker := by
    cases sel <;> rfl
  refine State.tracker_registryCommand m ?_
  split
  · rfl
  · dsimp only
    split
    · rw [State.tracker_done, selection, strikes]
    · rfl

theorem tracker_inspectEffect (m : MasterId) (cmd : Captured) (s : State) :
    (inspectEffect m cmd s).tracker = s.tracker := by
  unfold inspectEffect
  split <;> rfl

theorem tracker_resolveEffect (m : MasterId) (cmd : Captured) (s : State) :
    (resolveEffect m cmd s).tracker = s.tracker := by
  unfold resolveEffect
  split <;> rfl

end Frame

/-! ## Entries and their keys -/

/-- Among entries of distinct pairs, an entry is the only one of its pair. -/
theorem OrtEntry.filter_key {l : List OrtEntry} (h : (l.map (·.key)).Nodup) {e : OrtEntry} (he : e ∈ l) :
    l.filter (·.key == e.key) = [e] := by
  induction l with
  | nil => cases he
  | cons a l ih =>
    obtain ⟨hnew, hl⟩ := List.nodup_cons.1 h
    have apart : ∀ d ∈ l, d.key ≠ a.key := fun d hd hk => hnew (List.mem_map.2 ⟨d, hd, hk⟩)
    obtain rfl | he := List.mem_cons.1 he
    · have hnone : l.filter (·.key == e.key) = [] :=
        List.filter_eq_nil_iff.2 fun d hd hk => apart d hd (eq_of_beq hk)
      rw [List.filter_cons, if_pos (beq_self_eq_true e.key), hnone]
    · have hne : ¬ (a.key == e.key) = true := fun hk => apart e he (eq_of_beq hk).symm
      rw [List.filter_cons, if_neg hne, ih hl he]

theorem State.OrtLaw.filter_key (h : s.OrtLaw) {e : OrtEntry} (he : e ∈ s.ort) :
    s.ort.filter (·.key == e.key) = [e] := OrtEntry.filter_key h.2 he

/-- R58: the entry of a pair is the only one of that pair. -/
theorem State.OrtLaw.eq_of_key (h : s.OrtLaw) {d e : OrtEntry} (hd : d ∈ s.ort) (he : e ∈ s.ort)
    (hk : d.key = e.key) : d = e := by
  have hmem : d ∈ s.ort.filter (·.key == e.key) := List.mem_filter.2 ⟨hd, beq_iff_eq.2 hk⟩
  rw [h.filter_key he] at hmem
  exact List.mem_singleton.1 hmem

theorem State.mem_of_entry {k : MasterId × Tag} {e : OrtEntry} (h : s.entry k = some e) :
    e ∈ s.ort ∧ e.key = k :=
  ⟨List.mem_of_find?_eq_some h, by simpa using List.find?_some h⟩

theorem State.entry_none_iff {k : MasterId × Tag} : s.entry k = none ↔ ∀ e ∈ s.ort, e.key ≠ k := by
  simp [State.entry]

theorem State.OrtLaw.entry_eq (h : s.OrtLaw) {e : OrtEntry} (he : e ∈ s.ort) : s.entry e.key = some e := by
  cases hf : s.entry e.key with
  | none => exact absurd rfl (State.entry_none_iff.1 hf e he)
  | some d =>
    obtain ⟨hd, hk⟩ := State.mem_of_entry hf
    rw [h.eq_of_key hd he hk]

theorem OrtEntry.isExpired_iff (e : OrtEntry) : e.isExpired = true ↔ ∃ f, e.state = .expired f := by
  unfold OrtEntry.isExpired
  split <;> simp_all

theorem OrtEntry.not_isExpired_of_reserved {e : OrtEntry} (h : e.state = .reserved) : e.isExpired = false := by
  simp [OrtEntry.isExpired, h]

theorem OrtEntry.not_isExpired_of_waiting {e : OrtEntry} {d : Nat} (h : e.state = .waiting d) :
    e.isExpired = false := by
  simp [OrtEntry.isExpired, h]

/-- R76: an entry that is not EXPIRED does not stand in the fault-reply queue. -/
theorem State.FaultQueueLaw.not_mem (h : s.FaultQueueLaw) (ho : s.OrtLaw) {e : OrtEntry} (he : e ∈ s.ort)
    (hx : e.isExpired = false) : e.key ∉ s.faultQueue := by
  intro hm
  obtain ⟨d, hd, hk, hdx⟩ := (h.2 _).1 hm
  rw [ho.eq_of_key hd he hk, hx] at hdx
  cases hdx

theorem State.FaultQueueLaw.filter_ne (h : s.FaultQueueLaw) (ho : s.OrtLaw) {e : OrtEntry} (he : e ∈ s.ort)
    (hx : e.isExpired = false) : s.faultQueue.filter (· != e.key) = s.faultQueue :=
  List.filter_eq_self.2 fun k hk => by simpa using fun hke : k = e.key => h.not_mem ho he hx (hke ▸ hk)

/-! ## The ORT rewritten entry by entry -/

/-- Two records of one read: an update of the entry's clock or state that does not touch the reservation (R59). -/
structure OrtEntry.SameRead (d e : OrtEntry) : Prop where
  master : d.master = e.master
  tag : d.tag = e.tag
  window : d.window = e.window
  slot : d.slot = e.slot
  reserved : d.state = .reserved ↔ e.state = .reserved

theorem OrtEntry.SameRead.key {d e : OrtEntry} (h : d.SameRead e) : d.key = e.key := by
  simp [OrtEntry.key, h.master, h.tag]

theorem OrtEntry.SameRead.refl (e : OrtEntry) : e.SameRead e := ⟨rfl, rfl, rfl, rfl, .rfl⟩

theorem State.OrtLaw.map (h : s.OrtLaw) {f : OrtEntry → OrtEntry} (hf : ∀ e, (f e).key = e.key)
    (ht : t.ort = s.ort.map f) : t.OrtLaw := by
  have hkeys : t.ort.map (·.key) = s.ort.map (·.key) := by simp [ht, Function.comp_def, hf]
  refine ⟨by simpa [ht] using h.1, ?_⟩
  rw [hkeys]
  exact h.2

theorem State.FaultQueueLaw.map (h : s.FaultQueueLaw) {f : OrtEntry → OrtEntry} (hk : ∀ e, (f e).key = e.key)
    (hx : ∀ e ∈ s.ort, (f e).isExpired = e.isExpired) (ht : t.ort = s.ort.map f)
    (hq : t.faultQueue = s.faultQueue) : t.FaultQueueLaw := by
  refine ⟨by rw [hq]; exact h.1, fun k => ?_⟩
  rw [hq, h.2 k, ht]
  constructor
  · rintro ⟨e, he, hek, hex⟩
    exact ⟨f e, List.mem_map_of_mem he, (hk e).trans hek, (hx e he).trans hex⟩
  · rintro ⟨d, hd, hdk, hdx⟩
    obtain ⟨e, he, rfl⟩ := List.mem_map.1 hd
    exact ⟨e, he, (hk e).symm.trans hdk, (hx e he).symm.trans hdx⟩

/-- The same read in every entry and the same cycle at the Monitor, but for its timer: reservations stay paired. -/
theorem State.ReservedLaw.map (h : s.ReservedLaw) {f : OrtEntry → OrtEntry} {g : CurrentCycle → CurrentCycle}
    (hf : ∀ e ∈ s.ort, (f e).SameRead e) (hg : ∀ c, ∃ n, g c = { c with timer := n })
    (ht : t.ort = s.ort.map f) (hc : t.current = s.current.map g) : t.ReservedLaw where
  of_entry d hd hr := by
    rw [ht] at hd
    obtain ⟨e, he, rfl⟩ := List.mem_map.1 hd
    have same := hf e he
    obtain ⟨c, hcur, hm, hk, hw, hs⟩ := h.of_entry e he (same.reserved.1 hr)
    obtain ⟨n, hn⟩ := hg c
    refine ⟨g c, by simp [hc, hcur], ?_⟩
    rw [hn, same.master, same.tag, same.window, same.slot]
    exact ⟨hm, hk, hw, hs⟩
  of_cycle c tag hcur hk := by
    rw [hc, Option.map_eq_some_iff] at hcur
    obtain ⟨b, hb, rfl⟩ := hcur
    obtain ⟨n, hn⟩ := hg b
    rw [hn] at hk ⊢
    obtain ⟨e, he, hkey, hr, hw, hs⟩ := h.of_cycle b tag hb hk
    have same := hf e he
    exact ⟨f e, ht ▸ List.mem_map_of_mem he, same.key.trans hkey, same.reserved.2 hr, same.window.trans hw,
      same.slot.trans hs⟩

/-! ## Reservations without a cycle, and entries that leave -/

/-- With no current cycle no entry is RESERVED (R38). -/
theorem State.ReservedLaw.none_reserved (h : s.ReservedLaw) (hc : s.current = none) :
    ∀ e ∈ s.ort, e.state ≠ .reserved := by
  intro e he hr
  obtain ⟨c, hcur, -⟩ := h.of_entry e he hr
  simp [hc] at hcur

theorem State.reservedLaw_of_idle (hc : t.current = none) (h : ∀ e ∈ t.ort, e.state ≠ .reserved) :
    t.ReservedLaw where
  of_entry e he hr := absurd hr (h e he)
  of_cycle c tag hcur := by simp [hc] at hcur

theorem State.OrtLaw.filter (h : s.OrtLaw) {p : OrtEntry → Bool} (ht : t.ort = s.ort.filter p) : t.OrtLaw := by
  rw [State.OrtLaw, ht]
  exact ⟨Nat.le_trans (List.length_filter_le ..) h.1, h.2.sublist (List.filter_sublist.map _)⟩

/-- An entry that leaves the ORT leaves the fault-reply queue with it (R67, R76). -/
theorem State.FaultQueueLaw.drop (h : s.FaultQueueLaw) {k : MasterId × Tag}
    (ht : t.ort = s.ort.filter (·.key != k)) (hq : t.faultQueue = s.faultQueue.filter (· != k)) :
    t.FaultQueueLaw := by
  refine ⟨by rw [hq]; exact h.1.filter _, fun j => ?_⟩
  simp only [hq, ht, List.mem_filter, bne_iff_ne, h.2 j]
  constructor
  · rintro ⟨⟨e, he, rfl, hx⟩, hne⟩
    exact ⟨e, ⟨he, hne⟩, rfl, hx⟩
  · rintro ⟨e, ⟨he, hne⟩, rfl, hx⟩
    exact ⟨⟨e, he, rfl, hx⟩, hne⟩

/-! ## Reads that expire (R64, R74) -/

/-- The entry EXPIRED with a fault status. -/
def OrtEntry.expire (f : FaultStatus) (e : OrtEntry) : OrtEntry := { e with state := .expired f }

@[simp] theorem OrtEntry.key_expire (f : FaultStatus) (e : OrtEntry) : (e.expire f).key = e.key := rfl

@[simp] theorem OrtEntry.isExpired_expire (f : FaultStatus) (e : OrtEntry) : (e.expire f).isExpired = true := rfl

/-- The state t after the entries of s that p names, all of them WAITING, have expired with status f and joined the
tail of the fault-reply queue in creation order, the request being asserted if any joined (R64, R74). -/
structure State.Expires (s t : State) (p : OrtEntry → Bool) (f : FaultStatus) : Prop where
  waiting : ∀ e ∈ s.ort, p e = true → ∃ d, e.state = .waiting d
  ort : t.ort = s.ort.map fun e => if p e then e.expire f else e
  faultQueue : t.faultQueue = s.faultQueue ++ (s.ort.filter p).map (·.key)
  mastership : t.mastership = if (s.ort.filter p).map (·.key) = [] then s.mastership else s.assertRequest.mastership
  current : t.current = s.current

theorem State.Expires.faultQueueLaw {p : OrtEntry → Bool} {f : FaultStatus} (hx : s.Expires t p f) (ho : s.OrtLaw)
    (h : s.FaultQueueLaw) : t.FaultQueueLaw := by
  have joining_nodup : ((s.ort.filter p).map (·.key)).Nodup := ho.2.sublist (List.filter_sublist.map _)
  have apart : ∀ k ∈ s.faultQueue, ∀ j ∈ (s.ort.filter p).map (·.key), k ≠ j := by
    intro k hk j hj hkj
    obtain ⟨e, he, rfl⟩ := List.mem_map.1 hj
    obtain ⟨he, hpe⟩ := List.mem_filter.1 he
    obtain ⟨d, hd⟩ := hx.waiting e he hpe
    exact h.not_mem ho he (OrtEntry.not_isExpired_of_waiting hd) (hkj ▸ hk)
  refine ⟨by rw [hx.faultQueue]; exact List.nodup_append.2 ⟨h.1, joining_nodup, apart⟩, fun k => ?_⟩
  rw [hx.faultQueue, hx.ort, List.mem_append, h.2 k]
  constructor
  · rintro (⟨e, he, hk, hexp⟩ | hj)
    · refine ⟨_, List.mem_map_of_mem he, ?_⟩
      split <;> simp [hk, hexp]
    · obtain ⟨e, he, hk⟩ := List.mem_map.1 hj
      obtain ⟨he, hpe⟩ := List.mem_filter.1 he
      exact ⟨_, List.mem_map_of_mem he, by simp [hpe, hk]⟩
  · rintro ⟨d, hd, hk, hexp⟩
    obtain ⟨e, he, rfl⟩ := List.mem_map.1 hd
    by_cases hpe : p e = true
    · exact .inr (List.mem_map.2 ⟨e, List.mem_filter.2 ⟨he, hpe⟩, by simpa [hpe] using hk⟩)
    · exact .inl ⟨e, he, by simpa [hpe] using hk, by simpa [hpe] using hexp⟩

theorem State.assertRequest_mastership :
    s.assertRequest.mastership = if s.mastership = .idle then .requesting else s.mastership := by
  unfold State.assertRequest
  split <;> simp_all

theorem State.TrackerLaws.expires (h : s.TrackerLaws) {p : OrtEntry → Bool} {f : FaultStatus}
    (hx : s.Expires t p f) : t.TrackerLaws where
  ort := by
    refine h.ort.map (fun e => ?_) hx.ort
    split <;> rfl
  faultQueue := hx.faultQueueLaw h.ort h.faultQueue
  mastership := by
    obtain ⟨hidle, hhold⟩ := h.mastership
    rw [State.MastershipLaw, hx.mastership, hx.faultQueue, hx.current, State.assertRequest_mastership]
    generalize (s.ort.filter p).map (·.key) = joining
    by_cases hj : joining = []
    · simpa [hj] using h.mastership
    · by_cases hm : s.mastership = .idle
      · simp [hj, hm]
      · simpa [hj, hm] using hhold
  reserved := by
    refine h.reserved.map (g := id) (fun e he => ?_) (fun c => ⟨c.timer, rfl⟩) hx.ort (by simp [hx.current])
    split
    · next hpe =>
      obtain ⟨d, hd⟩ := hx.waiting e he hpe
      exact ⟨rfl, rfl, rfl, rfl, by simp [OrtEntry.expire, hd]⟩
    · exact .refl e

/-! ## The clocks and INIT -/

theorem EntryState.tick_reserved_iff (st : EntryState) : st.tick = .reserved ↔ st = .reserved := by
  cases st <;> simp [EntryState.tick]

theorem OrtEntry.isExpired_tick (e : OrtEntry) :
    OrtEntry.isExpired { e with state := e.state.tick } = e.isExpired := by
  unfold OrtEntry.isExpired
  cases e.state <;> rfl

theorem State.TrackerLaws.tick (h : s.TrackerLaws) : s.tick.TrackerLaws where
  ort := h.ort.map (f := fun e => { e with state := e.state.tick }) (fun _ => rfl) rfl
  faultQueue :=
    h.faultQueue.map (f := fun e => { e with state := e.state.tick }) (fun _ => rfl) (fun e _ => e.isExpired_tick) rfl
      rfl
  mastership := by
    obtain ⟨hidle, hhold⟩ := h.mastership
    exact ⟨hidle, fun hm => by simp [State.tick, hhold hm]⟩
  reserved :=
    h.reserved.map (f := fun e => { e with state := e.state.tick })
      (fun e _ => ⟨rfl, rfl, rfl, rfl, e.state.tick_reserved_iff⟩) (fun _ => ⟨_, rfl⟩) rfl rfl

theorem State.trackerLaws_initialise (s : State) : s.initialise.TrackerLaws where
  ort := ⟨Nat.zero_le _, List.nodup_nil⟩
  faultQueue := ⟨List.nodup_nil, fun k => by simp [State.initialise]⟩
  mastership := ⟨by simp [State.initialise], fun h => by simp [State.initialise] at h⟩
  reserved := State.reservedLaw_of_idle rfl (by simp [State.initialise])

/-! ## Address phases (R32, R38) -/

/-- A cycle without a reservation begins on a free bus. -/
theorem State.TrackerLaws.select (h : s.TrackerLaws) (hc : s.current = none) (hm : s.mastership ≠ .holding)
    {kind : CurrentKind} (hk : ∀ tag, kind ≠ .splitRead tag) (m : MasterId) (w : WindowId) (unit : Nat) :
    (s.select m kind w unit).TrackerLaws where
  ort := h.ort
  faultQueue := h.faultQueue
  mastership := ⟨h.mastership.1, fun hh => absurd hh hm⟩
  reserved :=
    { of_entry := fun e he hr => absurd hr (h.reserved.none_reserved hc e he)
      of_cycle := fun c tag hcur hkind => by
        cases hcur
        exact absurd hkind (hk tag) }

/-- A SPLIT READ begins on a free bus, its RESERVED entry at the end of the ORT (R32). -/
theorem State.TrackerLaws.reserve_select (h : s.TrackerLaws) (hc : s.current = none) (hm : s.mastership ≠ .holding)
    {m : MasterId} {tag : Tag} (hnew : s.entry (m, tag) = none) (hroom : s.ort.length < Config.ortCapacity)
    (w : WindowId) (unit : Nat) : ((s.reserve m tag w unit).select m (.splitRead tag) w unit).TrackerLaws where
  ort := by
    have hnew := State.entry_none_iff.1 hnew
    refine ⟨?_, ?_⟩
    · rw [State.select_ort, State.reserve, List.length_append]
      exact Nat.succ_le_of_lt hroom
    · simp only [State.select_ort, State.reserve, List.map_append]
      refine List.nodup_append.2 ⟨h.ort.2, List.pairwise_singleton _ _, ?_⟩
      simpa [OrtEntry.key] using hnew
  faultQueue := by
    refine ⟨h.faultQueue.1, fun k => (h.faultQueue.2 k).trans ?_⟩
    simp [State.reserve, or_and_right, exists_or, OrtEntry.isExpired]
  mastership := ⟨h.mastership.1, fun hh => absurd hh hm⟩
  reserved :=
    { of_entry := fun e he hr => by
        obtain he | rfl := by simpa [State.reserve] using he
        · exact absurd hr (h.reserved.none_reserved hc e he)
        · exact ⟨_, rfl, rfl, rfl, rfl, rfl⟩
      of_cycle := fun c tag' hcur hkind => by
        cases hcur
        cases hkind
        exact ⟨_, List.mem_append_right _ (List.mem_singleton_self _), rfl, rfl, rfl, rfl⟩ }

theorem State.TrackerLaws.splitPhase (h : s.TrackerLaws) (hc : s.current = none) (hm : s.mastership ≠ .holding)
    (m : MasterId) (tag : Tag) (w : WindowId) (unit : Nat) : (s.splitPhase m tag w unit).TrackerLaws := by
  unfold State.splitPhase
  split
  · exact h.of_tracker (s.tracker_answer _)
  · next hdup =>
    split
    · exact h.of_tracker (s.tracker_answer _)
    · next hfull => exact h.reserve_select hc hm (by simpa using hdup) (Nat.lt_of_not_le hfull) w unit

theorem State.TrackerLaws.resolvePhase (h : s.TrackerLaws) (hc : s.current = none) (hm : s.mastership ≠ .holding)
    (a : BusAddress) (m : MasterId) (kind : CycleKind) (width : Width) :
    (s.resolvePhase a m kind width).TrackerLaws := by
  have answered (status : Status) : (s.answer status).TrackerLaws := h.of_tracker (s.tracker_answer status)
  unfold State.resolvePhase
  split
  · exact answered _
  · split
    · exact answered _
    · split
      · exact answered _
      · exact answered _
      · exact answered _
      · exact answered _
      · exact h.of_tracker (s.tracker_portPhase a m kind width)
      · cases kind with
        | read => exact h.select hc hm (by simp) m _ _
        | write data => exact h.select hc hm (by simp) m _ _
        | splitRead tag => exact h.splitPhase hc hm m tag _ _

theorem State.TrackerLaws.addressPhase (h : s.TrackerLaws) {a : BusAddress} {m : MasterId} {kind : CycleKind}
    {width : Width} (hx : s.addressPhase a m kind width = .next t) : t.TrackerLaws := by
  obtain ⟨-, rfl⟩ | ⟨-, hx⟩ := State.whileRunning_next hx
  · exact h
  · obtain ⟨hc, hm, hx⟩ := State.onFreeBus_next hx
    cases hx
    exact h.resolvePhase hc hm a m kind width

/-! ## The end of a selected cycle (R43 to R45, R62, R91) -/

/-- The reserved entry of a SPLIT READ leaves, or there is no entry to leave (R62). -/
theorem State.removeReserved_cases (s : State) (c : CurrentCycle) :
    (s.removeReserved c = s ∧ ∀ e ∈ s.ort, c.kind = .splitRead e.tag → c.master ≠ e.master)
      ∨ ∃ e ∈ s.ort, c.kind = .splitRead e.tag ∧ c.master = e.master ∧ s.removeReserved c = s.removeEntry e := by
  unfold State.removeReserved
  cases hk : c.kind with
  | read => exact .inl ⟨rfl, nofun⟩
  | write => exact .inl ⟨rfl, nofun⟩
  | splitRead tag =>
    dsimp only
    cases he : s.entry (c.master, tag) with
    | none =>
      refine .inl ⟨rfl, fun e hmem htag hmaster => State.entry_none_iff.1 he e hmem ?_⟩
      cases htag
      simp [OrtEntry.key, hmaster]
    | some e =>
      obtain ⟨hmem, hkey⟩ := State.mem_of_entry he
      obtain ⟨hmaster, htag⟩ := Prod.mk.inj hkey
      exact .inr ⟨e, hmem, by rw [htag], hmaster.symm, rfl⟩

/-- While a cycle is current no tenure holds the bus (R164). -/
theorem State.MastershipLaw.not_holding (h : s.MastershipLaw) {c : CurrentCycle} (hc : s.current = some c) :
    s.mastership ≠ .holding := fun hm => by simp [h.2 hm] at hc

/-- An entry of the current SPLIT READ's pair is RESERVED (R38, R58). -/
theorem State.TrackerLaws.reserved_of_cycle (h : s.TrackerLaws) {c : CurrentCycle} (hc : s.current = some c)
    {e : OrtEntry} (he : e ∈ s.ort) (hk : c.kind = .splitRead e.tag) (hm : c.master = e.master) :
    e.state = .reserved := by
  obtain ⟨d, hd, hkey, hr, -⟩ := h.reserved.of_cycle c e.tag hc hk
  rwa [h.ort.eq_of_key hd he (by rw [hkey, hm]; rfl)] at hr

/-- The reservations of a state in a cycle are the cycle's own (R38). -/
theorem State.ReservedLaw.own (h : s.ReservedLaw) {c : CurrentCycle} (hc : s.current = some c) {d : OrtEntry}
    (hd : d ∈ s.ort) (hr : d.state = .reserved) : c.kind = .splitRead d.tag ∧ c.master = d.master := by
  obtain ⟨b, hb, hm, hk, -⟩ := h.of_entry d hd hr
  cases hc.symm.trans hb
  exact ⟨hk, hm⟩

/-- A cycle that ends when its reservation is settled leaves the laws. -/
theorem State.trackerLaws_endCycle (ho : s.OrtLaw) (hq : s.FaultQueueLaw)
    (hm : s.mastership = .idle ↔ s.faultQueue = []) (hr : ∀ e ∈ s.ort, e.state ≠ .reserved) (c : CurrentCycle)
    (a : AstLines) : (s.endCycle c a).TrackerLaws where
  ort := by simpa [State.OrtLaw] using ho
  faultQueue := by simpa [State.FaultQueueLaw] using hq
  mastership := ⟨by simpa using hm, fun _ => by simp⟩
  reserved := State.reservedLaw_of_idle (by simp) (by simpa using hr)

/-- A cycle that ends takes its reserved entry with it (R62). -/
theorem State.TrackerLaws.endRemoved (h : s.TrackerLaws) {c : CurrentCycle} (hc : s.current = some c) (a : AstLines) :
    ((s.removeReserved c).endCycle c a).TrackerLaws := by
  obtain ⟨heq, hnone⟩ | ⟨e, he, hk, hm, heq⟩ := s.removeReserved_cases c
  · rw [heq]
    refine State.trackerLaws_endCycle h.ort h.faultQueue h.mastership.1 (fun d hd hr => ?_) c a
    obtain ⟨hkd, hmd⟩ := h.reserved.own hc hd hr
    exact hnone d hd hkd hmd
  · rw [heq]
    have hqueue : (s.removeEntry e).faultQueue = s.faultQueue := by
      rw [State.removeEntry_faultQueue]
      exact h.faultQueue.filter_ne h.ort he
        (OrtEntry.not_isExpired_of_reserved (h.reserved_of_cycle hc he hk hm))
    refine State.trackerLaws_endCycle (h.ort.filter (s.removeEntry_ort e))
      (h.faultQueue.drop (s.removeEntry_ort e) (s.removeEntry_faultQueue e))
      (by simpa [hqueue] using h.mastership.1) (fun d hd hr => ?_) c a
    rw [State.removeEntry_ort, List.mem_filter, bne_iff_ne] at hd
    obtain ⟨hd, hne⟩ := hd
    obtain ⟨hkd, hmd⟩ := h.reserved.own hc hd hr
    have htag : e.tag = d.tag := by simpa [hk] using hkd
    exact hne (by simp [OrtEntry.key, htag, ← hmd, hm])

/-- The reserved entry of an accepted SPLIT READ is the one entry that changes: it becomes WAITING (R62). -/
theorem State.acceptReserved_splitRead {c : CurrentCycle} {tag : Tag} (hk : c.kind = .splitRead tag) (s : State) :
    ∃ d, s.acceptReserved c = s.setEntryState (c.master, tag) (.waiting d) := by
  unfold State.acceptReserved
  rw [hk]
  exact ⟨_, rfl⟩

theorem State.setEntryState_ort (s : State) (k : MasterId × Tag) (st : EntryState) :
    (s.setEntryState k st).ort = s.ort.map fun e => if e.key == k then { e with state := st } else e := rfl

/-- A SPLIT READ that is accepted ends with its entry WAITING (R62). -/
theorem State.TrackerLaws.endAccepted (h : s.TrackerLaws) {c : CurrentCycle} (hc : s.current = some c) {tag : Tag}
    (hk : c.kind = .splitRead tag) (a : AstLines) : ((s.acceptReserved c).endCycle c a).TrackerLaws := by
  obtain ⟨d, heq⟩ := State.acceptReserved_splitRead hk s
  rw [heq]
  have hown : ∀ e ∈ s.ort, e.key = (c.master, tag) → e.state = .reserved := by
    intro e he hkey
    obtain ⟨hm, ht⟩ := Prod.mk.inj hkey
    exact h.reserved_of_cycle hc he (by rw [hk]; exact congrArg _ ht.symm) hm.symm
  have hort := s.setEntryState_ort (c.master, tag) (.waiting d)
  refine State.trackerLaws_endCycle (h.ort.map (fun e => ?_) hort)
    (h.faultQueue.map (fun e => ?_) (fun e he => ?_) hort rfl) h.mastership.1 (fun e he hr => ?_) c a
  · split <;> rfl
  · split <;> rfl
  · split
    · next hkey => exact (OrtEntry.not_isExpired_of_reserved (hown e he (by simpa using hkey))).symm
    · rfl
  · obtain ⟨b, hb, rfl⟩ := List.mem_map.1 (hort ▸ he)
    split at hr
    · cases hr
    · next hne =>
      obtain ⟨hkb, hmb⟩ := h.reserved.own hc hb hr
      have htag : tag = b.tag := by simpa [hk] using hkb
      exact hne (by simp [OrtEntry.key, htag, hmb])

/-- A status from the slave of the current cycle (R43, R44, R46). -/
theorem State.TrackerLaws.acknowledge (h : s.TrackerLaws) (status : Status) : (s.acknowledge status).TrackerLaws := by
  unfold State.acknowledge
  split
  · exact h
  · next c hc =>
    split
    · next hp =>
      have hclear := h.of_tracker (s.tracker_strikeClear c.window)
      have hcur : (s.strikeClear c.window).current = some c := by simpa using hc
      unfold State.properEnd
      dsimp only
      split
      · next haccept =>
        cases hk : c.kind with
        | splitRead tag => exact hclear.endAccepted hcur hk _
        | read => rw [haccept, hk] at hp; cases hp
        | write => rw [haccept, hk] at hp; cases hp
      · exact hclear.endRemoved hcur _
    · exact (h.of_tracker (s.tracker_strike c.window)).endRemoved (by simpa using hc) _

/-- The end of a cycle that its timer brings (R45). -/
theorem State.TrackerLaws.timerExpiry (h : s.TrackerLaws) : s.timerExpiry.TrackerLaws := by
  unfold State.timerExpiry
  split
  · exact h
  · next c hc => exact (h.of_tracker (s.tracker_strike c.window)).endRemoved (by simpa using hc) _

/-! ## Deadlines and replies (R64 to R70) -/

theorem State.TrackerLaws.deadlineExpiry (h : s.TrackerLaws) (k : MasterId × Tag) :
    (s.deadlineExpiry k).TrackerLaws := by
  unfold State.deadlineExpiry
  split
  · exact h
  · next e hentry =>
    obtain ⟨he, -⟩ := State.mem_of_entry hentry
    split
    · next d hd =>
      refine h.expires (p := (·.key == e.key)) (f := .silent) ⟨fun b hb hkey => ?_, ?_, ?_, ?_, ?_⟩
      · exact ⟨d, by rw [h.ort.eq_of_key hb he (by simpa using hkey), hd]⟩
      · simp [State.expireEntry, State.setEntryState, OrtEntry.expire]
      · simp [State.expireEntry, h.ort.filter_key he]
      · simp [State.expireEntry, h.ort.filter_key he, State.assertRequest_mastership]
      · simp [State.expireEntry]
    · exact h
    · exact h

/-- On an idle bus an entry leaves with its place in the fault-reply queue, and the mastership follows the queue
(R67, R77, R78). -/
theorem State.TrackerLaws.of_drop (h : s.TrackerLaws) (hc : s.current = none) {k : MasterId × Tag}
    (ho : t.ort = s.ort.filter (·.key != k)) (hq : t.faultQueue = s.faultQueue.filter (· != k))
    (hm : t.mastership = .idle ↔ t.faultQueue = []) (hcur : t.current = none) : t.TrackerLaws where
  ort := h.ort.filter ho
  faultQueue := h.faultQueue.drop ho hq
  mastership := ⟨hm, fun _ => hcur⟩
  reserved := State.reservedLaw_of_idle hcur fun e he =>
    h.reserved.none_reserved hc e (by rw [ho] at he; exact (List.mem_filter.1 he).1)

theorem State.TrackerLaws.voidReply (h : s.TrackerLaws) (source : SlotId) (status : Status) :
    (s.voidReply source status).TrackerLaws := h.of_tracker rfl

/-- A reply to a WAITING entry leaves the fault-reply queue as it is (R66). -/
theorem State.TrackerLaws.passWaiting (h : s.TrackerLaws) (hc : s.current = none) {e : OrtEntry} (he : e ∈ s.ort)
    {d : Nat} (hd : e.state = .waiting d) (status : Status) : (s.passWaiting e status).TrackerLaws := by
  have hqueue := h.faultQueue.filter_ne h.ort he (OrtEntry.not_isExpired_of_waiting hd)
  refine h.of_drop hc (k := e.key) ?_ ?_ ?_ ?_
  · simp [State.passWaiting, State.removeEntry_ort]
  · simp [State.passWaiting, State.removeEntry_faultQueue]
  · simpa [State.passWaiting, State.removeEntry_faultQueue, hqueue] using h.mastership.1
  · simpa [State.passWaiting] using hc

theorem State.releaseRequest_mastership :
    s.releaseRequest.mastership = if s.mastership = .requesting ∧ s.faultQueue = [] then .idle else s.mastership := by
  unfold State.releaseRequest
  split <;> simp_all

/-- A real reply to an EXPIRED entry takes it from the queue and releases the request with the last one (R67, R77). -/
theorem State.TrackerLaws.passExpired (h : s.TrackerLaws) (hc : s.current = none) (hm : s.mastership ≠ .holding)
    {e : OrtEntry} (he : e ∈ s.ort) (hx : e.isExpired = true) (status : Status) :
    (s.passExpired e status).TrackerLaws := by
  have hqueued : e.key ∈ s.faultQueue := (h.faultQueue.2 _).2 ⟨e, he, rfl, hx⟩
  have hreq : s.mastership = .requesting := by
    have hidle : s.mastership ≠ .idle := fun hi => by simp [h.mastership.1.1 hi] at hqueued
    cases hs : s.mastership <;> simp_all
  refine h.of_drop hc (k := e.key) ?_ ?_ ?_ ?_
  · simp [State.passExpired, State.removeEntry_ort]
  · simp [State.passExpired, State.removeEntry_faultQueue]
  · simp only [State.passExpired, State.releaseRequest_mastership, State.removeEntry_mastership,
      State.releaseLines_mastership, State.releaseRequest_faultQueue, hreq, true_and]
    split <;> simp_all
  · simpa [State.passExpired] using hc

theorem State.TrackerLaws.matchReply (h : s.TrackerLaws) (hc : s.current = none) (hm : s.mastership ≠ .holding)
    {k : MasterId × Tag} {source : SlotId} {status : Status} (hx : s.matchReply k source status = .next t) :
    t.TrackerLaws := by
  unfold State.matchReply at hx
  split at hx
  · cases hx
    exact h.voidReply source status
  · next e hentry =>
    obtain ⟨he, -⟩ := State.mem_of_entry hentry
    split at hx
    · cases hx
    · next d hd =>
      split at hx
      · cases hx
        exact h.passWaiting hc he hd status
      · cases hx
        exact h.voidReply source status
    · next hd =>
      split at hx
      · cases hx
        exact h.passExpired hc hm he (e.isExpired_iff.2 ⟨_, hd⟩) status
      · cases hx
        exact h.voidReply source status
    · cases hx
      exact h.voidReply source status

/-! ## The part's own tenures (R77 to R79) -/

theorem State.TrackerLaws.grantTenure (h : s.TrackerLaws) (hc : s.current = none) : s.grantTenure.TrackerLaws := by
  unfold State.grantTenure
  split
  · next hq => exact ⟨h.ort, h.faultQueue, ⟨iff_of_true rfl hq, nofun⟩, ⟨h.reserved.of_entry, h.reserved.of_cycle⟩⟩
  · next k rest hq =>
    refine ⟨h.ort, h.faultQueue, ⟨iff_of_false nofun ?_, fun _ => hc⟩, ⟨h.reserved.of_entry, h.reserved.of_cycle⟩⟩
    simp [hq]

theorem State.endTenure_mastership :
    s.endTenure.mastership = if s.faultQueue = [] then .idle else .requesting := rfl

/-- The end of a fault reply takes the head's entry from the queue and the ORT (R78). -/
theorem State.TrackerLaws.endFaultReply (h : s.TrackerLaws) (hc : s.current = none) (k : MasterId × Tag) :
    (s.endFaultReply k).TrackerLaws := by
  have hmast : ∀ r : State, r.endTenure.mastership = .idle ↔ r.endTenure.faultQueue = [] := by
    intro r
    rw [State.endTenure_mastership, State.endTenure_faultQueue]
    split <;> simp_all
  unfold State.endFaultReply
  split
  · next e hentry =>
    obtain ⟨-, rfl⟩ := State.mem_of_entry hentry
    exact h.of_drop hc (s.removeEntry_ort e) (s.removeEntry_faultQueue e) (hmast _) (by simpa using hc)
  · exact h.of_drop hc (k := k) rfl rfl (hmast _) hc

/-! ## Presence loss (R89, R91) -/

theorem OrtEntry.waitsOn_waiting {e : OrtEntry} {k : SlotId} (h : e.waitsOn k = true) : ∃ d, e.state = .waiting d := by
  unfold OrtEntry.waitsOn at h
  split at h
  · next d hd => exact ⟨d, hd⟩
  · cases h
  · cases h

theorem State.TrackerLaws.withdrawCycle (h : s.TrackerLaws) (k : SlotId) : (s.withdrawCycle k).TrackerLaws := by
  unfold State.withdrawCycle
  split
  · next c hc =>
    split
    · exact h.endRemoved hc _
    · exact h
  · exact h

theorem State.TrackerLaws.withdrawEntries (h : s.TrackerLaws) (k : SlotId) : (s.withdrawEntries k).TrackerLaws := by
  refine h.expires (p := (·.waitsOn k)) (f := .withdrawn) ⟨fun e _ => OrtEntry.waitsOn_waiting, ?_, ?_, ?_, ?_⟩
  · unfold State.withdrawEntries
    dsimp only
    split <;> simp [OrtEntry.expire]
  · unfold State.withdrawEntries
    dsimp only
    split <;> simp
  · unfold State.withdrawEntries
    dsimp only
    split <;> simp [State.assertRequest_mastership]
  · simp

theorem State.TrackerLaws.presenceLoss (h : s.TrackerLaws) (k : SlotId) : (s.presenceLoss k).TrackerLaws := by
  have drained : ((s.setSlot k (s.slot k).lost).forceDrain k).TrackerLaws := h.of_tracker (by simp)
  exact ((drained.withdrawCycle k).withdrawEntries k).of_tracker (State.tracker_raise ..)

/-! ## Every event, every step -/

/-- An event that stops unless its condition holds, and answered a next state, found it to hold. -/
theorem Result.ite_next {p : Prop} [Decidable p] {k : Result} {f : Fault}
    (h : (if p then k else .fault f) = .next t) : p ∧ k = .next t := by
  split at h
  · next hp => exact ⟨hp, h⟩
  · cases h

/-- Every event keeps the laws of the Read Tracker. -/
theorem State.TrackerLaws.exec (h : s.TrackerLaws) (i : Instr) (hx : exec i s = .next t) : t.TrackerLaws := by
  have running {r : State} (hr : r.TrackerLaws) (hx : s.whileRunning (.next r) = .next t) : t.TrackerLaws := by
    obtain ⟨-, rfl⟩ | ⟨-, hx⟩ := State.whileRunning_next hx
    · exact h
    · cases hx
      exact hr
  cases i with
  | init => cases hx; exact s.trackerLaws_initialise
  | initRelease prs mode =>
    obtain ⟨-, hx⟩ := Result.ite_next hx
    cases hx
    exact h.of_tracker (s.tracker_release prs mode)
  | addressPhase a m kind width => exact h.addressPhase hx
  | go m code width => exact h.addressPhase hx
  | stagingWrite m n data width => exact h.addressPhase hx
  | attentionClear m data width => exact h.addressPhase hx
  | occupancyWrite m data width => exact h.addressPhase hx
  | abandon m width => exact h.addressPhase hx
  | badCommand =>
    exact h.of_tracker
      (State.take_tracker (named := fun code => (commandOf code).isNone) tracker_badCommandEffect hx)
  | claim => exact h.of_tracker (State.take_tracker tracker_claimEffect hx)
  | resize => exact h.of_tracker (State.take_tracker tracker_resizeEffect hx)
  | move => exact h.of_tracker (State.take_tracker tracker_moveEffect hx)
  | restack => exact h.of_tracker (State.take_tracker tracker_restackEffect hx)
  | grant => exact h.of_tracker (State.take_tracker tracker_grantEffect hx)
  | handover => exact h.of_tracker (State.take_tracker tracker_handoverEffect hx)
  | retire => exact h.of_tracker (State.take_tracker tracker_retireEffect hx)
  | reinstate => exact h.of_tracker (State.take_tracker tracker_reinstateEffect hx)
  | setSlot => exact h.of_tracker (State.take_tracker tracker_setSlotEffect hx)
  | slotOnline => exact h.of_tracker (State.take_tracker tracker_slotOnlineEffect hx)
  | slotOffline => exact h.of_tracker (State.take_tracker tracker_slotOfflineEffect hx)
  | setMaster => exact h.of_tracker (State.take_tracker tracker_setMasterEffect hx)
  | tune => exact h.of_tracker (State.take_tracker tracker_tuneEffect hx)
  | inspect => exact h.of_tracker (State.take_tracker tracker_inspectEffect hx)
  | resolve => exact h.of_tracker (State.take_tracker tracker_resolveEffect hx)
  | properAcknowledge status => exact running (h.acknowledge status) hx
  | improperAcknowledge status => exact running (h.acknowledge status) hx
  | strayAcknowledge status => cases hx; exact h
  | acknowledgeTimerExpiry => exact running h.timerExpiry hx
  | deadlineExpiry m tag => exact running (h.deadlineExpiry (m, tag)) hx
  | replyCycle m tag source data status =>
    obtain ⟨-, rfl⟩ | ⟨-, hx⟩ := State.whileRunning_next hx
    · exact h
    · obtain ⟨hc, hm, hx⟩ := State.onFreeBus_next hx
      exact h.matchReply hc hm hx
  | mastershipGrant =>
    obtain ⟨-, rfl⟩ | ⟨-, hx⟩ := State.whileRunning_next hx
    · exact h
    · split at hx
      · cases hx
      · next hc =>
        cases hx
        exact h.grantTenure (by simpa using hc)
  | faultReplyEnd =>
    obtain ⟨-, rfl⟩ | ⟨-, hx⟩ := State.whileRunning_next hx
    · exact h
    · split at hx
      · next k rest hm _ =>
        cases hx
        exact h.endFaultReply (h.mastership.2 hm) k
      · cases hx
  | presenceLoss k =>
    obtain ⟨-, hx⟩ := Result.ite_next hx
    have moved : (s.movePrs k false).TrackerLaws := h.of_tracker rfl
    obtain ⟨-, rfl⟩ | ⟨-, hx⟩ := State.whileRunning_next hx
    · exact moved
    · rw [← Host.Outcome.next.inj hx]
      exact moved.presenceLoss k
  | presenceReturn k mode =>
    obtain ⟨-, hx⟩ := Result.ite_next hx
    obtain ⟨-, rfl⟩ | ⟨-, hx⟩ := State.whileRunning_next hx
    · exact h.of_tracker rfl
    · rw [← Host.Outcome.next.inj hx]
      exact h.of_tracker rfl

/-- Every step keeps the laws of the Read Tracker. -/
theorem State.TrackerLaws.step (h : s.TrackerLaws) (hx : step s = .next t) : t.TrackerLaws := by
  obtain ⟨-, rfl⟩ | ⟨i, rest, -, hx⟩ := step_next hx
  · exact h.tick
  · have h' : ({ s with pending := rest } : State).TrackerLaws := h.of_tracker rfl
    exact h'.exec i hx

/-- Settles O57: the four laws read the ORT, the fault-reply queue, the mastership and the current cycle alone, and
each operation on those keeps them together. -/
theorem readTrackerLawsKept : Obligations.ReadTrackerLawsKept := by
  intro s t hort hqueue hmast hres hx
  obtain ⟨hort', hqueue', hmast', hres'⟩ := State.TrackerLaws.step ⟨hort, hqueue, hmast, hres⟩ hx
  exact ⟨hort', hqueue', hmast', hres'⟩

end Sys2Proof.Machine
end

section
/-!
PROOFS. Resolution of an address phase (O13, O14, O16, O17, O19, O20), the rows for port writes (O21), and the writes of
ATTENTION and OCCUPANCY (O25).
-/
namespace Sys2Proof.Machine

variable {s : State}

/-! ## Address phases that the part answers itself -/

/-- A phase that resolves to an answer is answered: the last step of checks 1 to 6. -/
theorem State.BusReady.answered (h : s.BusReady) {a : BusAddress} {m : MasterId} {kind : CycleKind} {width : Width}
    {status : Status} (hr : s.resolvePhase a m kind width = s.answer status) :
    ∃ t, exec (.addressPhase a m kind width) s = .next t ∧ s.AnswersTo t status none :=
  ⟨_, by rw [← hr]; exact h.addressPhase a m kind width, s.answersTo_answer status⟩

/-- Check 1 (R24). -/
theorem State.resolvePhase_disabled {m : MasterId} (he : (s.master m).enabled = false) (a : BusAddress)
    (kind : CycleKind) (width : Width) : s.resolvePhase a m kind width = s.answer .denied := by
  simp [State.resolvePhase, he]

/-- Check 1a (R25). -/
theorem State.resolvePhase_splitIo {m : MasterId} (he : (s.master m).enabled = true) (p : BitVec 16) (tag : Tag)
    (width : Width) : s.resolvePhase (.io p) m (.splitRead tag) width = s.answer .denied := by
  simp [State.resolvePhase, he, isSplit, spaceOf]

/-- Check 2 (R26). -/
theorem State.resolvePhase_unmapped {a : BusAddress} {m : MasterId} {kind : CycleKind}
    (he : (s.master m).enabled = true) (hs : ¬ (isSplit kind = true ∧ spaceOf a = .io))
    (hn : s.topWindow (spaceOf a) (unitOf a) = none) (width : Width) :
    s.resolvePhase a m kind width = s.answer .unmapped := by
  have hs' : (isSplit kind && spaceOf a == .io) = false := by
    rw [← Bool.not_eq_true]; simpa using hs
  simp [State.resolvePhase, he, hs', State.verdict, hn]

/-- Settles O13: checks 1 and 2. -/
theorem answeredWithoutWindow : Obligations.AnsweredWithoutWindow := by
  intro s a m kind width h
  exact ⟨fun he => h.answered (State.resolvePhase_disabled he a kind width),
    fun he hs hn => h.answered (State.resolvePhase_unmapped he hs (State.topWindow_none hn) width)⟩

/-- Settles O14: check 1a. -/
theorem splitReadInIoDenied : Obligations.SplitReadInIoDenied := by
  intro s p m tag width h he
  exact h.answered (State.resolvePhase_splitIo he p tag width)

/-! ## The top window decides (R27, R28) -/

/-- Check 3: the state of the top window answers (R27). -/
theorem State.resolveAt_byState {w : WindowId} {status : Status} (h : stateAnswer (s.window w).state = some status)
    (a : BusAddress) (m : MasterId) (kind : CycleKind) (width : Width) :
    s.resolveAt w a m kind width = s.answer status := by
  simp [State.resolveAt, h]

/-- Check 4: an ACTIVE window without the right (R28). -/
theorem State.resolveAt_noRight {w : WindowId} {m : MasterId} {kind : CycleKind} (ha : (s.window w).state = .active)
    (hr : ¬ (s.window w).allows m kind) (a : BusAddress) (width : Width) :
    s.resolveAt w a m kind width = s.answer .denied := by
  have hr' : ¬ (s.window w).admits m (isWrite kind) = true := fun h => hr ((Window.admits_iff _ m kind).1 h)
  simp [State.resolveAt, ha, stateAnswer, hr']

/-- Settles O16: checks 3 and 4. -/
theorem answeredByTopWindow : Obligations.AnsweredByTopWindow := by
  intro s a m kind width w h he hs ht
  have at_top : s.resolvePhase a m kind width = s.resolveAt w a m kind width := ht.resolvePhase he hs
  have byState {status : Status} (hst : stateAnswer (s.window w).state = some status) :=
    h.answered (at_top.trans (State.resolveAt_byState hst a m kind width))
  refine ⟨fun hw => ?_, fun hw => ?_, fun hw => ?_, fun hw hr => ?_⟩
  · exact byState (by rw [hw]; rfl)
  · exact byState (by rw [hw]; rfl)
  · exact byState (by rw [hw]; rfl)
  · exact h.answered (at_top.trans (State.resolveAt_noRight hw hr a width))

/-! ## Checks 6 and 7 (R32, R33) -/

/-- A cycle with the right at an ACTIVE window other than entry 0 reaches check 6 or 7 (R28, R29). -/
theorem State.resolveAt_select {w : WindowId} {m : MasterId} {kind : CycleKind} (hw : w ≠ 0)
    (ha : (s.window w).state = .active) (hr : (s.window w).allows m kind) (a : BusAddress) (width : Width) :
    s.resolveAt w a m kind width =
      match kind with
      | .read => s.select m .read w (unitOf a)
      | .write _ => s.select m .write w (unitOf a)
      | .splitRead tag => s.splitPhase m tag w (unitOf a) := by
  have hr' : (s.window w).admits m (isWrite kind) = true := (Window.admits_iff _ m kind).2 hr
  simp only [State.resolveAt, ha, stateAnswer, hr', hw, if_true, if_false]
  cases kind <;> rfl

theorem State.entry_isSome_iff {m : MasterId} {tag : Tag} :
    (s.entry (m, tag)).isSome = true ↔ ∃ e ∈ s.ort, e.master = m ∧ e.tag = tag := by
  simp [State.entry, OrtEntry.key]

/-- Check 6 on a pair in use (R32). -/
theorem State.splitPhase_conflict {m : MasterId} {tag : Tag} (h : ∃ e ∈ s.ort, e.master = m ∧ e.tag = tag)
    (w : WindowId) (unit : Nat) : s.splitPhase m tag w unit = s.answer .conflict := by
  simp [State.splitPhase, State.entry_isSome_iff.2 h]

/-- Check 6 on a new pair (R32). -/
theorem State.splitPhase_new {m : MasterId} {tag : Tag} (h : ∀ e ∈ s.ort, ¬ (e.master = m ∧ e.tag = tag))
    (w : WindowId) (unit : Nat) :
    s.splitPhase m tag w unit
      = if 32 ≤ s.ort.length then s.answer .retry else (s.reserve m tag w unit).select m (.splitRead tag) w unit := by
  have hn : ¬ (s.entry (m, tag)).isSome = true := fun hs => by
    obtain ⟨e, he, hk⟩ := State.entry_isSome_iff.1 hs
    exact h e he hk
  unfold State.splitPhase
  rw [if_neg hn]
  rfl

/-- Settles O19: check 6. -/
theorem splitReadRefused : Obligations.SplitReadRefused := by
  intro s a m tag width w h he ht hw ha hr
  have at_top : s.resolvePhase (.mem a) m (.splitRead tag) width = s.splitPhase m tag w (a.toNat / 4096) :=
    (State.IsTop.resolvePhase (a := .mem a) he (by simp [spaceOf]) ht).trans
      (State.resolveAt_select hw ha hr (.mem a) width)
  refine ⟨fun hdup => ?_, fun hnew hfull => ?_⟩
  · exact h.answered (at_top.trans (State.splitPhase_conflict hdup w _))
  · refine h.answered (at_top.trans ?_)
    rw [State.splitPhase_new hnew, hfull, if_pos (Nat.le_refl 32)]

/-- Settles O20: check 7. -/
theorem cycleSelected : Obligations.CycleSelected := by
  intro s a m width w h he ht hw ha
  have selected {kind : CycleKind} (hs : ¬ (isSplit kind = true ∧ spaceOf a = .io)) (hr : (s.window w).allows m kind) :
      exec (.addressPhase a m kind width) s = .next (s.resolveAt w a m kind width) :=
    (h.addressPhase a m kind width).trans (congrArg _ (ht.resolvePhase he hs))
  refine ⟨fun hr => ?_, fun data hr => ?_, fun tag hmem hr hnew hroom => ?_⟩
  · refine ⟨_, (selected (by simp [isSplit]) hr).trans ?_, s.selectsFor_select m .read w (unitOf a)⟩
    rw [State.resolveAt_select hw ha hr]
  · refine ⟨_, (selected (by simp [isSplit]) hr).trans ?_, s.selectsFor_select m .write w (unitOf a)⟩
    rw [State.resolveAt_select hw ha hr]
  · refine ⟨_, (selected (by simp [hmem]) hr).trans ?_,
      (s.reserve m tag w (unitOf a)).selectsFor_select m (.splitRead tag) w (unitOf a)⟩
    rw [State.resolveAt_select hw ha hr]
    dsimp only
    rw [State.splitPhase_new hnew, if_neg (by omega)]

/-! ## The directory port (R29 to R31) -/

/-- Settles O17: check 5 at an odd port. -/
theorem oddPortDenied : Obligations.OddPortDenied := by
  intro s p m width h hp hodd
  have denied {kind : CycleKind} (hk : isSplit kind = false)
      (hport : s.portPhase (.io p) m kind width = s.answer .denied) :
      ∃ t, exec (.addressPhase (.io p) m kind width) s = .next t ∧ s.AnswersTo t .denied none :=
    ⟨_, by rw [← hport]; exact h.addressPhase hp width hk, s.answersTo_answer .denied⟩
  exact ⟨denied rfl (by simp [State.portPhase, hodd]), fun data => denied rfl (by simp [State.portPhase, hodd])⟩

/-- The address of staging word n, as Table 3-2 counts it. -/
theorem stagingPort_eq (n : Fin 5) : stagingPort n = BitVec.ofNat 16 (0xFFF2 + 2 * n.val) := by
  revert n
  decide

/-- Resolution reads of a WRITE's data the word it hands over alone (R165). -/
theorem State.resolvePhase_write_congr {data data' : Word} {width width' : Width}
    (h : writtenWord data width = writtenWord data' width') (a : BusAddress) (m : MasterId) :
    s.resolvePhase a m (.write data) width = s.resolvePhase a m (.write data') width' := by
  have hport : s.portPhase a m (.write data) width = s.portPhase a m (.write data') width' := by
    cases a with
    | mem b => rfl
    | io p => simp only [State.portPhase, h]
  simp only [State.resolvePhase, hport]
  rfl

theorem State.addressPhase_write_congr {data data' : Word} {width width' : Width}
    (h : writtenWord data width = writtenWord data' width') (a : BusAddress) (m : MasterId) :
    s.addressPhase a m (.write data) width = s.addressPhase a m (.write data') width' := by
  simp only [State.addressPhase, State.resolvePhase_write_congr h]

/-- ABANDON's code is a byte: every width hands it over whole (R107, R165). -/
theorem writtenWord_abandonCode (width : Width) : writtenWord abandonCode width = 0x001F := by
  cases width <;> rfl

/-- Settles O21: each row is the WRITE at its port by definition, and ABANDON by the word it hands over. -/
theorem portWriteRowsAreAddressPhases : Obligations.PortWriteRowsAreAddressPhases := by
  intro s m width
  refine ⟨fun _ => rfl, fun n data => ?_, fun _ => rfl, fun _ => rfl, ?_, fun data hdata => ?_⟩
  · rw [← stagingPort_eq]
    rfl
  · exact State.addressPhase_write_congr (writtenWord_abandonCode width) _ m
  · refine State.addressPhase_write_congr ((writtenWord_abandonCode width).trans ?_) _ m
    simp only [writtenWord, hdata]
    rfl

/-- The reasons lie in the low byte: a byte write names the same ones as a word write (R156, R165). -/
theorem bitOf_writtenWord (data : Word) (width : Width) (r : Reason) :
    bitOf (writtenWord data width) r.bit = data.getLsbD r.bit := by
  cases width with
  | word => rfl
  | byte =>
    have low : ∀ i < 8, (BitVec.ofNat 16 (data.toNat % 256)).getLsbD i = data.getLsbD i := by
      intro i hi
      rw [BitVec.getLsbD_ofNat, show 256 = 2 ^ 8 from rfl, Nat.testBit_mod_two_pow]
      simp [hi, show i < 16 by omega, BitVec.testBit_toNat]
    exact low r.bit (by cases r <;> decide)

/-- Settles O25: both ports are even, and their owners do what R156 and R31 say. -/
theorem attentionAndOccupancyWrite : Obligations.AttentionAndOccupancyWrite := by
  intro s m data width h
  have hwrite : exec (.attentionClear m data width) s
      = .next ((s.attentionWrite m (writtenWord data width)).serve none) :=
    h.write (by decide) (by decide) data width
  refine ⟨fun hsup => ?_, fun hsup => ?_, ?_⟩
  · refine ⟨_, hwrite, ?_⟩
    simp only [State.attentionWrite, hsup, if_true, Attention.clearNamed, bitOf_writtenWord]
    exact State.answersTo_serve _ none
  · refine ⟨_, hwrite, ?_⟩
    simp only [State.attentionWrite, hsup]
    exact State.answersTo_serve _ none
  · exact ⟨_, h.write (p := 0xFFFE) (by decide) (by decide) data width, s.answersTo_serve none⟩

end Sys2Proof.Machine
end

section
/-!
PROOFS. The words of the directory port (O18), and the events that cannot arise (O8).
-/
namespace Sys2Proof.Machine

variable {s : State}

/-! ## Packed words -/

/-- A word whose fields fit in 16 bits reads as their sum (R167). -/
theorem toNat_pack {fields : List Nat} (h : fields.sum < 65536) : (pack fields).toNat = fields.sum := by
  rw [pack, ← List.sum_eq_foldr, BitVec.toNat_ofNat]
  exact Nat.mod_eq_of_lt h

theorem lay_eq {value width : Nat} (h : value < 2 ^ width) (lo : Nat) : lay value lo width = value * 2 ^ lo := by
  rw [lay, Nat.mod_eq_of_lt h]

theorem layBit_le (b : Bool) (lo : Nat) : layBit b lo ≤ 2 ^ lo := by
  unfold layBit
  split <;> simp

/-! ## The port words (R30, R120, R162, Tables 7-5, 12-1 and 12-2) -/

theorem ContextState.code_of_mem {st : ContextState} {n : Nat} (h : (st, n) ∈ contextStateCodes) : st.code = n := by
  cases st <;> simpa [contextStateCodes, ContextState.code, eq_comm] using h

theorem ContextState.code_lt (st : ContextState) : st.code < 8 := by cases st <;> decide

theorem ResultCode.code_of_mem {r : ResultCode} {n : Nat} (h : (r, n) ∈ resultCodes) : r.code = n := by
  cases r <;> simpa [resultCodes, ResultCode.code, eq_comm] using h

theorem ResultCode.code_lt (r : ResultCode) : r.code < 32 := by cases r <;> decide

theorem Context.toNat_word (c : Context) :
    c.word.toNat = c.state.code + (if c.overrun then 128 else 0) + 256 * c.result.code := by
  have hs := c.state.code_lt
  have hr := c.result.code_lt
  have ho := layBit_le c.overrun 7
  have hflag : layBit c.overrun 7 = if c.overrun then 128 else 0 := rfl
  rw [Context.word, lay_eq (width := 3) hs, lay_eq (width := 5) hr, toNat_pack]
  · simp only [List.sum_cons, List.sum_nil, hflag]
    omega
  · simp only [List.sum_cons, List.sum_nil]
    omega

theorem selectionCode_lt (sel : Option (Fin 8)) : selectionCode sel < 16 := by
  cases sel with
  | none => decide
  | some n => simp only [selectionCode]; omega

theorem State.toNat_attentionWord (s : State) :
    s.attentionWord.toNat = (if s.attention.suspended.raised then 1 else 0)
      + (if s.attention.slotLost.raised then 2 else 0) + (if s.attention.orphanReply.raised then 4 else 0)
      + 256 * selectionCode s.selection := by
  have hsel := selectionCode_lt s.selection
  have h0 := layBit_le s.attention.suspended.raised 0
  have h1 := layBit_le s.attention.slotLost.raised 1
  have h2 := layBit_le s.attention.orphanReply.raised 2
  rw [State.attentionWord, lay_eq (width := 4) hsel, toNat_pack]
  · simp only [List.sum_cons, List.sum_nil, layBit, Nat.reducePow]
    omega
  · simp only [List.sum_cons, List.sum_nil]
    omega

/-- Entry 0 is not counted, so the count of FREE entries fits in six bits (R18, R162). -/
theorem State.freeEntries_lt (s : State) : s.freeEntries < 64 := by
  have hle : s.freeEntries ≤ 64 := Nat.le_trans List.countP_le_length (Nat.le_of_eq List.length_finRange)
  have hne : s.freeEntries ≠ 64 := fun heq => by
    have hall := List.countP_eq_length.1 (heq.trans List.length_finRange.symm) 0 (List.mem_finRange 0)
    cases hall
  omega

/-- A list without repetition is no longer than one that holds all its members. -/
theorem length_le_of_nodup_subset {α : Type} [BEq α] [LawfulBEq α] {l : List α} (h : l.Nodup) :
    ∀ {l' : List α}, l ⊆ l' → l.length ≤ l'.length := by
  induction l with
  | nil => exact fun _ => Nat.zero_le _
  | cons a l ih =>
    intro l' hsub
    obtain ⟨hnew, hl⟩ := List.nodup_cons.1 h
    have ha : a ∈ l' := hsub (List.mem_cons_self ..)
    have hle := ih hl (l' := l'.erase a) fun b hb => by
      have hne : b ≠ a := fun hba => hnew (hba ▸ hb)
      exact (List.mem_erase_of_ne hne).2 (hsub (List.mem_cons_of_mem a hb))
    rw [List.length_erase_of_mem ha] at hle
    have := List.length_pos_of_mem ha
    simp only [List.length_cons]
    omega

/-- At most one command of each master stands in the queue (R109). -/
theorem State.QueueLaw.length_le (h : s.QueueLaw) : s.queue.length ≤ 8 := by
  have hle := length_le_of_nodup_subset h.nodup fun m _ => List.mem_finRange m
  rwa [List.length_finRange] at hle

theorem State.toNat_occupancyWord (hq : s.QueueLaw) (ho : s.OrtLaw) :
    s.occupancyWord.toNat = s.freeEntries + 64 * s.ort.length + 4096 * s.queue.length := by
  have hfree := s.freeEntries_lt
  have hort : s.ort.length ≤ 32 := ho.1
  have hqueue := hq.length_le
  rw [State.occupancyWord, lay_eq (width := 6) hfree, lay_eq (width := 6) (by omega), lay_eq (width := 4) (by omega),
    toNat_pack]
  · simp only [List.sum_cons, List.sum_nil]
    omega
  · simp only [List.sum_cons, List.sum_nil]
    omega

/-- The even ports from 0xFFF2 are the five words in order (Table 3-2). -/
theorem portOf_word (n : Fin 5) : portOf (BitVec.ofNat 16 (0xFFF2 + 2 * n.val)) = .word n := by
  revert n
  decide

theorem Words.get_eq (ws : Words) (n : Fin 5) : ws.get n = [ws.w0, ws.w1, ws.w2, ws.w3, ws.w4][n] := by
  match n with
  | 0 | 1 | 2 | 3 | 4 => rfl

/-- Settles O18: each even port serves its word, whose number is the sum of its fields. -/
theorem portReadServed : Obligations.PortReadServed := by
  intro s m width h
  refine ⟨?_, fun n => ?_, ?_, fun hq ho => ?_⟩
  · refine ⟨_, _, h.read (p := 0xFFF0) (by decide) (by decide) width, s.answersTo_serve _,
      fun state result hst hres => ?_⟩
    rw [← ContextState.code_of_mem hst, ← ResultCode.code_of_mem hres]
    exact (s.context m).toNat_word
  · have hp : 0xFFF0 ≤ (BitVec.ofNat 16 (0xFFF2 + 2 * n.val)).toNat := by revert n; decide
    have he : (BitVec.ofNat 16 (0xFFF2 + 2 * n.val)).getLsbD 0 = false := by revert n; decide
    refine ⟨_, _, h.read hp he width, s.answersTo_serve _, fun hc => ?_, fun hc => ?_⟩
    · rw [portOf_word]
      simp only [State.portWord, Context.resultWord, hc, if_true, Words.get_eq]
    · rw [portOf_word]
      simp only [State.portWord, Context.resultWord, hc, if_false]
  · refine ⟨_, _, h.read (p := 0xFFFC) (by decide) (by decide) width, s.answersTo_serve _, ?_⟩
    refine s.toNat_attentionWord.trans ?_
    cases s.selection <;> rfl
  · exact ⟨_, _, h.read (p := 0xFFFE) (by decide) (by decide) width, s.answersTo_serve _, s.toNat_occupancyWord hq ho⟩

/-! ## The engine's rows (R110, Table 7-3) -/

/-- The code of a command (Table 7-3). -/
def Command.code : Command → Word
  | .claim => 0x01
  | .resize => 0x02
  | .move => 0x03
  | .restack => 0x04
  | .grant => 0x05
  | .handover => 0x06
  | .retire => 0x07
  | .reinstate => 0x08
  | .setSlot => 0x10
  | .slotOnline => 0x11
  | .slotOffline => 0x12
  | .setMaster => 0x13
  | .tune => 0x14
  | .inspect => 0x18
  | .resolve => 0x19

theorem commandOf_code (c : Command) : commandOf c.code = some c := by cases c <;> rfl

/-- A code names a command exactly when it is the command's code (R111). -/
theorem commandOf_eq_some_iff {code : Word} {c : Command} : commandOf code = some c ↔ code = c.code := by
  refine ⟨fun h => ?_, fun h => h ▸ commandOf_code c⟩
  apply BitVec.eq_of_toNat_eq
  unfold commandOf at h
  split at h <;> cases h
  all_goals
    next hcode => exact hcode

theorem exec_badCommand (s : State) :
    exec .badCommand s = s.take (fun code => (commandOf code).isNone) badCommandEffect := rfl

/-- Every coded row takes the command of its code. -/
theorem exec_codedRow {p : Instr × Word} (hp : p ∈ codedRows) :
    ∃ c effect, p.2 = c.code ∧ ∀ s, exec p.1 s = s.take (isCommand c) effect := by
  simp only [codedRows, windowRows, registryRows, List.cons_append, List.nil_append, List.mem_cons, List.not_mem_nil,
    or_false] at hp
  obtain rfl | rfl | rfl | rfl | rfl | rfl | rfl | rfl | rfl | rfl | rfl | rfl | rfl | rfl | rfl := hp
  · exact ⟨.claim, _, rfl, fun _ => rfl⟩
  · exact ⟨.resize, _, rfl, fun _ => rfl⟩
  · exact ⟨.move, _, rfl, fun _ => rfl⟩
  · exact ⟨.restack, _, rfl, fun _ => rfl⟩
  · exact ⟨.grant, _, rfl, fun _ => rfl⟩
  · exact ⟨.handover, _, rfl, fun _ => rfl⟩
  · exact ⟨.retire, _, rfl, fun _ => rfl⟩
  · exact ⟨.reinstate, _, rfl, fun _ => rfl⟩
  · exact ⟨.setSlot, _, rfl, fun _ => rfl⟩
  · exact ⟨.slotOnline, _, rfl, fun _ => rfl⟩
  · exact ⟨.slotOffline, _, rfl, fun _ => rfl⟩
  · exact ⟨.setMaster, _, rfl, fun _ => rfl⟩
  · exact ⟨.tune, _, rfl, fun _ => rfl⟩
  · exact ⟨.inspect, _, rfl, fun _ => rfl⟩
  · exact ⟨.resolve, _, rfl, fun _ => rfl⟩

/-- The engine's rows are BAD_COMMAND and the coded rows. -/
theorem mem_takeRows {i : Instr} (h : i ∈ takeRows) : i = .badCommand ∨ ∃ p ∈ codedRows, p.1 = i := by
  have : takeRows = .badCommand :: codedRows.map (·.1) := rfl
  rw [this, List.mem_cons, List.mem_map] at h
  exact h

/-- Every row of the engine is a take. -/
theorem exec_takeRow {i : Instr} (h : i ∈ takeRows) : ∃ named effect, ∀ s, exec i s = s.take named effect := by
  obtain rfl | ⟨p, hp, rfl⟩ := mem_takeRows h
  · exact ⟨_, _, exec_badCommand⟩
  · obtain ⟨c, effect, -, hexec⟩ := exec_codedRow hp
    exact ⟨_, _, hexec⟩

/-- A take with no command queued (R110; log 2). -/
theorem State.take_empty (hi : s.pins.init = false) (hq : s.queue = []) (named : Word → Bool)
    (effect : MasterId → Captured → State → State) : s.take named effect = .fault .notAtHead := by
  simp [State.take, hi, hq]

/-- A take of a command that is not the one at the head (R110; log 2). -/
theorem State.Takes.take_other {m : MasterId} {rest : List MasterId} {cmd : Captured} (h : s.Takes m rest cmd)
    {named : Word → Bool} (hn : named cmd.code = false) (effect : MasterId → Captured → State → State) :
    s.take named effect = .fault .notAtHead := by
  simp [State.take, h.released, h.head, h.captured, hn]

theorem State.Takes.codedRow_other {m : MasterId} {rest : List MasterId} {cmd : Captured} (h : s.Takes m rest cmd)
    {p : Instr × Word} (hp : p ∈ codedRows) (hne : cmd.code ≠ p.2) : exec p.1 s = .fault .notAtHead := by
  obtain ⟨c, effect, hcode, hexec⟩ := exec_codedRow hp
  rw [hexec]
  refine h.take_other ?_ effect
  simpa [isCommand, commandOf_eq_some_iff, ← hcode] using hne

theorem State.Takes.badCommand_other {m : MasterId} {rest : List MasterId} {cmd : Captured} (h : s.Takes m rest cmd)
    {p : Instr × Word} (hp : p ∈ codedRows) (heq : cmd.code = p.2) : exec .badCommand s = .fault .notAtHead := by
  obtain ⟨c, -, hcode, -⟩ := exec_codedRow hp
  rw [exec_badCommand]
  exact h.take_other (by rw [heq, hcode, commandOf_code]; rfl) badCommandEffect

/-! ## The bus and the lines (R39, R65, R86, R102, R164) -/

/-- A bus event on a bus that is held (R39; log 2). -/
theorem State.onFreeBus_held (h : s.current ≠ none ∨ s.mastership = .holding) (k : Result) :
    s.onFreeBus k = .fault .busBusy := by
  refine if_neg fun hfree => ?_
  obtain ⟨hc, hm⟩ := s.busFree_iff.1 hfree
  exact h.elim (· hc) hm

/-- A reply to a RESERVED entry stops: its own cycle holds the bus (R65; log 2). -/
theorem State.replyCycle_reserved (hi : s.pins.init = false) (ho : s.OrtLaw) {e : OrtEntry} (he : e ∈ s.ort)
    (hr : e.state = .reserved) (source : SlotId) (data : Word) (status : Status) :
    exec (.replyCycle e.master e.tag source data status) s = .fault .busBusy := by
  have hmatch : s.matchReply (e.master, e.tag) source status = .fault .busBusy := by
    simp only [State.matchReply, show s.entry (e.master, e.tag) = some e from ho.entry_eq he, hr]
  change s.whileRunning (s.onFreeBus (s.matchReply (e.master, e.tag) source status)) = _
  rw [State.whileRunning_released hi, hmatch]
  exact ite_self _

/-- The end of a fault reply that the part is not driving (R78; log 2). -/
theorem State.faultReplyEnd_none (hi : s.pins.init = false) (hm : s.mastership ≠ .holding) :
    exec .faultReplyEnd s = .fault .noFaultReply := by
  change s.whileRunning _ = _
  rw [State.whileRunning_released hi]
  split
  · next hh _ => exact absurd hh hm
  · rfl

/-- A presence loss that is no edge, or on slot 0, which has no PRS line (R86, R89; log 2). -/
theorem State.presenceLoss_noEdge {k : SlotId} (h : ¬ (k ≠ 0 ∧ s.prsLevel k = true)) :
    exec (.presenceLoss k) s = .fault .noEdge := if_neg h

/-- A presence return that is no edge, or on slot 0 (R86, R92; log 2). -/
theorem State.presenceReturn_noEdge {k : SlotId} (h : ¬ (k ≠ 0 ∧ s.prsLevel k = false)) (mode : Mode) :
    exec (.presenceReturn k mode) s = .fault .noEdge := if_neg h

/-- Settles O8: each stop is the guard of its own event. -/
theorem impossibleEventsStop : Obligations.ImpossibleEventsStop := by
  intro s
  refine ⟨fun hi hheld => ⟨fun a m kind width => ?_, fun m tag k data status => ?_⟩, fun hi hc => ?_,
    fun hi hq i hrow => ?_, fun m rest cmd h => ⟨fun p => h.codedRow_other, fun p => h.badCommand_other⟩,
    fun hi ho e he hr => State.replyCycle_reserved hi ho he hr, State.faultReplyEnd_none, fun k hk => ?_,
    fun k mode hk => ?_, ⟨?_, fun mode => ?_⟩, fun hi prs mode => ?_⟩
  · exact (State.whileRunning_released hi _).trans (State.onFreeBus_held hheld _)
  · exact (State.whileRunning_released hi _).trans (State.onFreeBus_held hheld _)
  · exact (State.whileRunning_released hi _).trans (if_pos (Option.isSome_iff_ne_none.2 hc))
  · obtain ⟨named, effect, hexec⟩ := exec_takeRow hrow
    exact (hexec s).trans (State.take_empty hi hq named effect)
  · exact State.presenceLoss_noEdge (by simp [hk])
  · exact State.presenceReturn_noEdge (by simp [hk]) mode
  · exact State.presenceLoss_noEdge (by simp)
  · exact State.presenceReturn_noEdge (by simp) mode
  · exact if_neg (by simp [hi])

end Sys2Proof.Machine
end

section
/-!
PROOFS. The clocks (O2), the events that meet no cycle and no entry (O32), and the ends of a selected cycle that its
slave or its timer brings (O29, O30).
-/
namespace Sys2Proof.Machine

variable {s t : State}

/-! ## The clocks (R42, R63) -/

theorem OrtEntry.tick_eq (e : OrtEntry) :
    { e with state := e.state.tick } =
      match e.state with
      | .waiting d => { e with state := .waiting (d - 1) }
      | _ => e := by
  obtain ⟨m, tag, w, k, unit, st⟩ := e
  cases st with
  | reserved => rfl
  | waiting d => rfl
  | expired f => rfl

/-- Settles O2: the idle step is the tick, clock by clock. -/
theorem idleStepRunsClocks : Obligations.IdleStepRunsClocks := by
  intro s hp
  refine ⟨s.tick, step_nil hp, rfl, fun hc => ?_, fun c hc => ?_, List.map_congr_left fun e _ => e.tick_eq⟩
  · simp [State.tick, hc]
  · simp [State.tick, hc]

/-! ## Events that meet nothing (R46, R72) -/

theorem exec_properAcknowledge (hi : s.pins.init = false) (status : Status) :
    exec (.properAcknowledge status) s = .next (s.acknowledge status) := State.whileRunning_released hi _

theorem exec_improperAcknowledge (hi : s.pins.init = false) (status : Status) :
    exec (.improperAcknowledge status) s = .next (s.acknowledge status) := State.whileRunning_released hi _

theorem exec_acknowledgeTimerExpiry (hi : s.pins.init = false) :
    exec .acknowledgeTimerExpiry s = .next s.timerExpiry := State.whileRunning_released hi _

theorem exec_deadlineExpiry (hi : s.pins.init = false) (m : MasterId) (tag : Tag) :
    exec (.deadlineExpiry m tag) s = .next (s.deadlineExpiry (m, tag)) := State.whileRunning_released hi _

theorem State.acknowledge_none (hc : s.current = none) (status : Status) : s.acknowledge status = s := by
  simp [State.acknowledge, hc]

theorem State.timerExpiry_none (hc : s.current = none) : s.timerExpiry = s := by
  simp [State.timerExpiry, hc]

/-- A deadline that no WAITING entry of the pair carries does not expire (R72). -/
theorem State.deadlineExpiry_unmatched {k : MasterId × Tag}
    (h : ∀ e ∈ s.ort, e.key = k → ∀ d, e.state ≠ .waiting d) : s.deadlineExpiry k = s := by
  unfold State.deadlineExpiry
  split
  · rfl
  · next e hentry =>
    obtain ⟨he, hkey⟩ := State.mem_of_entry hentry
    split
    · next d hd => exact absurd hd (h e he hkey d)
    · rfl
    · rfl

/-- Settles O32: each event finds no cycle, or no WAITING entry, to act on. -/
theorem unmatchedEventsIgnored : Obligations.UnmatchedEventsIgnored := by
  intro s hi
  refine ⟨fun _ => rfl, fun hc => ⟨fun status => ⟨?_, ?_⟩, ?_⟩, fun m tag h => ?_⟩
  · rw [exec_properAcknowledge hi, State.acknowledge_none hc]
  · rw [exec_improperAcknowledge hi, State.acknowledge_none hc]
  · rw [exec_acknowledgeTimerExpiry hi, State.timerExpiry_none hc]
  · rw [exec_deadlineExpiry hi, State.deadlineExpiry_unmatched]
    intro e he hkey
    obtain ⟨hm, ht⟩ := Prod.mk.inj hkey
    exact h e he hm ht

/-! ## The end that each event brings (R43 to R45) -/

/-- The proper acknowledges: OK in any cycle, ACCEPT in a SPLIT READ (R43). -/
theorem CurrentKind.proper_iff (kind : CurrentKind) (status : Status) :
    kind.proper status = true ↔ status = .ok ∨ (status = .accept ∧ ∃ tag, kind = .splitRead tag) := by
  unfold CurrentKind.proper
  split
  · simp
  · simp
  · next hok haccept =>
    refine ⟨nofun, ?_⟩
    rintro (rfl | ⟨rfl, tag, rfl⟩)
    · exact (hok rfl).elim
    · exact (haccept tag rfl rfl).elim

theorem State.acknowledge_proper {c : CurrentCycle} (hc : s.current = some c) {status : Status}
    (hp : c.kind.proper status = true) : s.acknowledge status = s.properEnd c status := by
  simp [State.acknowledge, hc, hp]

theorem State.acknowledge_improper {c : CurrentCycle} (hc : s.current = some c) {status : Status}
    (hp : ¬ c.kind.proper status = true) : s.acknowledge status = s.improperEnd c status := by
  simp [State.acknowledge, hc, hp]

section Ends

variable {c : CurrentCycle}

theorem exec_properAcknowledge_ok (hi : s.pins.init = false) (hc : s.current = some c) :
    exec (.properAcknowledge .ok) s =
      .next (((s.strikeClear c.window).removeReserved c).endCycle c (.bySlave .ok)) := by
  rw [exec_properAcknowledge hi, State.acknowledge_proper hc ((c.kind.proper_iff _).2 (.inl rfl))]
  rfl

theorem exec_properAcknowledge_accept (hi : s.pins.init = false) (hc : s.current = some c)
    (hk : ∃ tag, c.kind = .splitRead tag) :
    exec (.properAcknowledge .accept) s =
      .next (((s.strikeClear c.window).acceptReserved c).endCycle c (.bySlave .accept)) := by
  rw [exec_properAcknowledge hi, State.acknowledge_proper hc ((c.kind.proper_iff _).2 (.inr ⟨rfl, hk⟩))]
  rfl

theorem exec_improperAcknowledge_error (hi : s.pins.init = false) (hc : s.current = some c) {status : Status}
    (hok : status ≠ .ok) (haccept : status ≠ .accept) :
    exec (.improperAcknowledge status) s =
      .next (((s.strike c.window).removeReserved c).endCycle c (.bySlave status)) := by
  have hp : ¬ c.kind.proper status = true := by simp [CurrentKind.proper_iff, hok, haccept]
  rw [exec_improperAcknowledge hi, State.acknowledge_improper hc hp, State.improperEnd]

theorem exec_improperAcknowledge_accept (hi : s.pins.init = false) (hc : s.current = some c)
    (hk : ∀ tag, c.kind ≠ .splitRead tag) :
    exec (.improperAcknowledge .accept) s =
      .next (((s.strike c.window).removeReserved c).endCycle c (.bySlave .accept)) := by
  have hp : ¬ c.kind.proper .accept = true := by simp [CurrentKind.proper_iff, hk]
  rw [exec_improperAcknowledge hi, State.acknowledge_improper hc hp, State.improperEnd]

theorem exec_acknowledgeTimerExpiry_cycle (hi : s.pins.init = false) (hc : s.current = some c) :
    exec .acknowledgeTimerExpiry s =
      .next (((s.strike c.window).removeReserved c).endCycle c (.byPart .silent)) := by
  rw [exec_acknowledgeTimerExpiry hi]
  simp [State.timerExpiry, hc]

end Ends

/-! ## Strikes and strike clears (R48, R49, R52, R155) -/

theorem ReasonRecord.raisedTo_raise (r : ReasonRecord) (subject : Nat) : r.RaisedTo (r.raise subject) subject where
  first h := by simp [ReasonRecord.raise, h]
  again h := by simp [ReasonRecord.raise, h, Config.countMax]

section Strikes

variable {w : WindowId}

theorem State.strike_below (ha : (s.window w).state = .active) (hl : (s.window w).strikes + 1 ≠ s.strikeLimit) :
    s.strike w = s.setWindow w (s.window w).struck := by
  simp [State.strike, ha, hl]

theorem State.strike_limit (ha : (s.window w).state = .active) (hl : (s.window w).strikes + 1 = s.strikeLimit) :
    s.strike w = (s.setWindow w (s.window w).struck.suspend).raise .suspended w.val := by
  simp [State.strike, ha, hl]

theorem State.strike_inactive (ha : (s.window w).state ≠ .active) : s.strike w = s := by
  simp [State.strike, ha]

theorem State.strikeClear_active (ha : (s.window w).state = .active) :
    s.strikeClear w = s.setWindow w (s.window w).unstruck := by
  simp [State.strikeClear, ha]

theorem State.strikeClear_inactive (ha : (s.window w).state ≠ .active) : s.strikeClear w = s := by
  simp [State.strikeClear, ha]

theorem State.struck_strike (s : State) (w : WindowId) : s.Struck (s.strike w) w where
  counted ha hl := by simp [State.strike_below ha hl, Window.struck]
  suspends ha hl := by
    rw [State.strike_limit ha hl]
    exact ⟨State.window_setWindow_self .., s.attention.suspended.raisedTo_raise w.val, rfl, rfl⟩
  suspended hs := by simp [State.strike_inactive (s := s) (w := w) (by simp [hs])]
  unraised ha := by rw [State.strike_inactive ha]

theorem State.strikesCleared_strikeClear (s : State) (w : WindowId) : s.StrikesCleared (s.strikeClear w) w where
  cleared ha := by simp [State.strikeClear_active ha, Window.unstruck]
  suspended hs := by rw [State.strikeClear_inactive (by simp [hs])]

/-- The window is neither HELD nor DRAINING, so that no drain check acts on it (R145). -/
def Window.Undrained (win : Window) : Prop := win.state ≠ .held ∧ win.state ≠ .draining

theorem Window.undrained_of_active {win : Window} (h : win.state = .active) : win.Undrained := by
  simp [Window.Undrained, h]

theorem Window.undrained_of_suspended {win : Window} (h : win.state = .suspended) : win.Undrained := by
  simp [Window.Undrained, h]

/-- What the rules say of a strike outlasts later events of the cycle's end: the drain check leaves the window and no
other reason is raised. -/
theorem State.Struck.of_later {u : State} (h : s.Struck t w)
    (hw : (t.window w).Undrained → u.window w = t.window w) (ha : u.attention = t.attention) : s.Struck u w where
  counted hact hl := by
    obtain ⟨hwin, hatt⟩ := h.counted hact hl
    have hu : (t.window w).Undrained := Window.undrained_of_active (by rw [hwin]; exact hact)
    exact ⟨(hw hu).trans hwin, ha.trans hatt⟩
  suspends hact hl := by
    obtain ⟨hwin, hraised, hlost, horphan⟩ := h.suspends hact hl
    have hu : (t.window w).Undrained := Window.undrained_of_suspended (by rw [hwin])
    rw [ha]
    exact ⟨(hw hu).trans hwin, hraised, hlost, horphan⟩
  suspended hs := by
    obtain ⟨hwin, hatt⟩ := h.suspended hs
    have hu : (t.window w).Undrained := Window.undrained_of_suspended (by rw [hwin]; exact hs)
    exact ⟨(hw hu).trans hwin, ha.trans hatt⟩
  unraised hact := ha.trans (h.unraised hact)

theorem State.StrikesCleared.of_later {u : State} (h : s.StrikesCleared t w)
    (hw : (t.window w).Undrained → u.window w = t.window w) : s.StrikesCleared u w where
  cleared hact := by
    have hwin := h.cleared hact
    exact (hw (Window.undrained_of_active (by rw [hwin]; exact hact))).trans hwin
  suspended hs := by
    have hwin := h.suspended hs
    exact (hw (Window.undrained_of_suspended (by rw [hwin]; exact hs))).trans hwin

end Strikes

/-! ## The cycle's own window at its end (O30) -/

/-- While the cycle is current its mark keeps the drain check of a removed entry from its window (R10, R145). -/
theorem State.window_removeReserved_own {c : CurrentCycle} (hc : s.current = some c) :
    (s.removeReserved c).window c.window = s.window c.window := by
  obtain ⟨heq, -⟩ | ⟨e, -, -, -, heq⟩ := s.removeReserved_cases c
  · rw [heq]
  · rw [heq]
    by_cases hw : e.window = c.window
    · have hmarked : (s.dropEntry e.key).Referenced e.window := .inr ⟨c, hc, hw.symm⟩
      rw [State.removeEntry, State.drainCheck_referenced hmarked]
      rfl
    · exact s.window_removeEntry_ne (Ne.symm hw)

/-- The end of a cycle on a window without a drain is the record and the lines alone (R43 steps 4 and 5). -/
theorem State.endCycle_undrained {c : CurrentCycle} (h : (s.window c.window).Undrained) (a : AstLines) :
    s.endCycle c a = { s.releaseLines { s.lines with ast := a } with current := none } :=
  State.drainCheck_idle h.1 h.2

theorem State.window_endCycle_undrained {c : CurrentCycle} (h : (s.window c.window).Undrained) (a : AstLines) :
    (s.endCycle c a).window c.window = s.window c.window := by
  rw [State.endCycle_undrained h]
  rfl

/-- The end of a cycle leaves its window as the verdict on it left it, unless the drain check acts. -/
theorem State.window_endRemoved {c : CurrentCycle} (hc : s.current = some c) (a : AstLines)
    (h : (s.window c.window).Undrained) :
    ((s.removeReserved c).endCycle c a).window c.window = s.window c.window := by
  have hown := State.window_removeReserved_own hc
  rw [State.window_endCycle_undrained (by rwa [hown]), hown]

theorem State.struck_end {c : CurrentCycle} (hc : s.current = some c) (a : AstLines) :
    s.Struck (((s.strike c.window).removeReserved c).endCycle c a) c.window :=
  (s.struck_strike c.window).of_later (State.window_endRemoved (by simpa using hc) a) (by simp)

/-- Settles O30: the strike or the clear at the end of a cycle is the one handed to its window. -/
theorem cycleEndStrikes : Obligations.CycleEndStrikes := by
  intro s c hi hc
  have hclear := s.strikesCleared_strikeClear c.window
  refine ⟨⟨?_, fun tag hk => ?_⟩, fun status hok haccept => ?_, fun hk => ?_, ?_⟩
  · exact ⟨_, exec_properAcknowledge_ok hi hc, hclear.of_later (State.window_endRemoved (by simpa using hc) _),
      by simp⟩
  · refine ⟨_, exec_properAcknowledge_accept hi hc ⟨tag, hk⟩, hclear.of_later fun hu => ?_, by simp⟩
    rw [State.window_endCycle_undrained (by simpa using hu), State.acceptReserved_window]
  · exact ⟨_, exec_improperAcknowledge_error hi hc hok haccept, State.struck_end hc _⟩
  · exact ⟨_, exec_improperAcknowledge_accept hi hc hk, State.struck_end hc _⟩
  · exact ⟨_, exec_acknowledgeTimerExpiry_cycle hi hc, State.struck_end hc _⟩

/-! ## The whole state at the end of a cycle (O29) -/

/-- From s to t a strike or a clear has been handed to window w: nothing else is touched but the SUSPENDED record, and
the window's waiting context stays (R48, R49, R52). -/
structure State.CountsAt (s t : State) (w : WindowId) : Prop where
  frame : t = { s with windows := t.windows, attention := t.attention }
  other : ∀ v, v ≠ w → t.window v = s.window v
  waiting : (t.window w).waiting = (s.window w).waiting
  slotLost : t.attention.slotLost = s.attention.slotLost
  orphanReply : t.attention.orphanReply = s.attention.orphanReply

theorem State.countsAt_refl (s : State) (w : WindowId) : s.CountsAt s w := ⟨rfl, fun _ _ => rfl, rfl, rfl, rfl⟩

theorem State.countsAt_setWindow {w : WindowId} {r : Window} (h : r.waiting = (s.window w).waiting) :
    s.CountsAt (s.setWindow w r) w :=
  ⟨rfl, fun _ hv => s.window_setWindow_ne r hv, by simpa using h, rfl, rfl⟩

theorem State.countsAt_strike (s : State) (w : WindowId) : s.CountsAt (s.strike w) w := by
  by_cases ha : (s.window w).state = .active
  · by_cases hl : (s.window w).strikes + 1 = s.strikeLimit
    · rw [State.strike_limit ha hl]
      obtain ⟨-, other, waiting, -, -⟩ := State.countsAt_setWindow (r := (s.window w).struck.suspend) rfl
      exact ⟨rfl, other, waiting, rfl, rfl⟩
    · rw [State.strike_below ha hl]
      exact State.countsAt_setWindow rfl
  · rw [State.strike_inactive ha]
    exact s.countsAt_refl w

theorem State.countsAt_strikeClear (s : State) (w : WindowId) : s.CountsAt (s.strikeClear w) w := by
  by_cases ha : (s.window w).state = .active
  · rw [State.strikeClear_active ha]
    exact State.countsAt_setWindow rfl
  · rw [State.strikeClear_inactive ha]
    exact s.countsAt_refl w

/-- What the end of cycle c makes of the ORT: the reserved entry of a SPLIT READ becomes WAITING with the reply limit
when the read is accepted, and is removed otherwise (R62, R63). -/
structure CurrentCycle.Settles (c : CurrentCycle) (replyLimit : Nat) (accepted : Prop) (before after : List OrtEntry) :
    Prop where
  waits : ∀ tag, c.kind = .splitRead tag → accepted →
    after = before.map fun e =>
      if e.master = c.master ∧ e.tag = tag then { e with state := .waiting (64 * replyLimit) } else e
  leaves : ∀ tag, c.kind = .splitRead tag → ¬ accepted →
    after = before.filter fun e => !(e.master == c.master && e.tag == tag)
  plain : (∀ tag, c.kind ≠ .splitRead tag) → after = before

section Settled

variable {c : CurrentCycle} {accepted : Prop}

theorem State.removeReserved_plain (hk : ∀ tag, c.kind ≠ .splitRead tag) : s.removeReserved c = s := by
  obtain ⟨heq, -⟩ | ⟨e, -, hsplit, -, -⟩ := s.removeReserved_cases c
  · exact heq
  · exact absurd hsplit (hk e.tag)

/-- The reserved entry of the current SPLIT READ leaves the ORT and nothing else changes: it stands in no queue, and the
cycle's mark keeps the drain check from its window (R10, R62, R76). -/
theorem State.removeReserved_splitRead (ho : s.OrtLaw) (hq : s.FaultQueueLaw) (hr : s.ReservedLaw)
    (hc : s.current = some c) {tag : Tag} (hk : c.kind = .splitRead tag) :
    s.removeReserved c = { s with ort := s.ort.filter (·.key != (c.master, tag)) } := by
  obtain ⟨e, he, hkey, hres, hw, -⟩ := hr.of_cycle c tag hc hk
  have hentry : s.entry (c.master, tag) = some e := hkey ▸ ho.entry_eq he
  have hmarked : (s.dropEntry e.key).Referenced e.window := .inr ⟨c, hc, hw.symm⟩
  have hqueue := hq.filter_ne ho he (OrtEntry.not_isExpired_of_reserved hres)
  calc s.removeReserved c = s.removeEntry e := by simp [State.removeReserved, hk, hentry]
    _ = s.dropEntry e.key := State.drainCheck_referenced hmarked
    _ = { s with ort := s.ort.filter (·.key != e.key) } := by simp [State.dropEntry, hqueue]
    _ = { s with ort := s.ort.filter (·.key != (c.master, tag)) } := by rw [hkey]

theorem State.removeReserved_settles (ho : s.OrtLaw) (hq : s.FaultQueueLaw) (hr : s.ReservedLaw)
    (hc : s.current = some c) (ha : ¬ accepted) (replyLimit : Nat) :
    ∃ l, s.removeReserved c = { s with ort := l } ∧ c.Settles replyLimit accepted s.ort l := by
  by_cases hk : ∃ tag, c.kind = .splitRead tag
  · obtain ⟨tag, hk⟩ := hk
    refine ⟨_, State.removeReserved_splitRead ho hq hr hc hk, fun _ _ h => absurd h ha, fun tag' hk' _ => ?_,
      fun h => absurd hk (h tag)⟩
    obtain rfl : tag = tag' := by simpa using hk.symm.trans hk'
    rfl
  · have hplain : ∀ tag, c.kind ≠ .splitRead tag := fun tag h => hk ⟨tag, h⟩
    exact ⟨s.ort, State.removeReserved_plain hplain, fun tag h => absurd h (hplain tag),
      fun tag h => absurd h (hplain tag), fun _ => rfl⟩

theorem State.acceptReserved_settles (hk : ∃ tag, c.kind = .splitRead tag) (ha : accepted) :
    ∃ l, s.acceptReserved c = { s with ort := l } ∧ c.Settles (s.slot c.slot).replyLimit accepted s.ort l := by
  obtain ⟨tag, hk⟩ := hk
  have heq : s.acceptReserved c = s.setEntryState (c.master, tag)
      (.waiting ((s.slot c.slot).replyLimit * Config.ticksPerReplyStep)) := by
    simp only [State.acceptReserved, hk]
  refine ⟨_, heq, fun tag' hk' _ => ?_, fun _ _ h => absurd ha h, fun h => absurd hk (h tag)⟩
  obtain rfl : tag = tag' := by simpa using hk.symm.trans hk'
  simp [OrtEntry.key, Config.ticksPerReplyStep, Nat.mul_comm]

/-- The end t of cycle c in one form: a strike or a clear is handed to its window, its reservation is settled in the
ORT, and the cycle ends with a status on AST. -/
def State.EndsCycle (s t : State) (c : CurrentCycle) (ast : AstLines) (accepted : Prop) : Prop :=
  ∃ a l, t = State.endCycle { a with ort := l } c ast ∧ s.CountsAt a c.window
    ∧ c.Settles (s.slot c.slot).replyLimit accepted s.ort l

/-- An end that accepts no SPLIT READ. -/
theorem State.CountsAt.endsCycle_removed (h : s.CountsAt t c.window) (hc : s.current = some c) (ho : s.OrtLaw)
    (hq : s.FaultQueueLaw) (hr : s.ReservedLaw) (ha : ¬ accepted) (ast : AstLines) :
    s.EndsCycle ((t.removeReserved c).endCycle c ast) c ast accepted := by
  obtain ⟨windows, attention, rfl⟩ :
      ∃ windows attention, t = { s with windows := windows, attention := attention } := ⟨_, _, h.frame⟩
  obtain ⟨l, heq, hl⟩ := State.removeReserved_settles
    (s := { s with windows := windows, attention := attention }) ho hq ⟨hr.of_entry, hr.of_cycle⟩ hc ha _
  exact ⟨_, l, by rw [heq], h, hl⟩

/-- The end of a SPLIT READ that is accepted. -/
theorem State.endsCycle_accepted (s : State) (hk : ∃ tag, c.kind = .splitRead tag) (ha : accepted) (ast : AstLines) :
    s.EndsCycle (((s.strikeClear c.window).acceptReserved c).endCycle c ast) c ast accepted := by
  obtain ⟨l, heq, hl⟩ := State.acceptReserved_settles (s := s.strikeClear c.window) hk ha
  exact ⟨_, l, by rw [heq], s.countsAt_strikeClear c.window, by simpa using hl⟩

end Settled

/-! ### What the drain check leaves of the contexts (R115, R145) -/

theorem State.context_completeWaiter_ne {o : Option MasterId} {n : MasterId} (h : o ≠ some n) (s : State)
    (code : ResultCode) (ws : Words) : (s.completeWaiter o code ws).context n = s.context n := by
  rw [State.context_completeWaiter, if_neg h]

/-- The drain check of a window reaches no context but the one that waits on it. -/
theorem State.context_drainCheck_ne {w : WindowId} {n : MasterId} (h : (s.window w).waiting ≠ some n) :
    (s.drainCheck w).context n = s.context n := by
  unfold State.drainCheck
  split
  · split
    · unfold State.applyChange
      dsimp only
      split
      · rw [State.context_completeWaiter_ne h, State.setWindow_context]
      · rfl
    · rw [State.becomeFree, State.setWindow_context, State.context_completeWaiter_ne h]
    · rfl
    · rfl
    · rfl
  · rfl

theorem State.context_endCycle_ne {c : CurrentCycle} {n : MasterId} (h : (s.window c.window).waiting ≠ some n)
    (a : AstLines) : (s.endCycle c a).context n = s.context n :=
  State.context_drainCheck_ne (s := { s.releaseLines { s.lines with ast := a } with current := none }) h

theorem State.endCycle_released (s : State) (c : CurrentCycle) (a : AstLines) : (s.endCycle c a).LinesReleased := by
  rw [State.LinesReleased, State.endCycle_lines]
  exact Lines.onlyDrives_idle

/-- Settles O29: the strike or clear and the settled reservation touch what `CountsAt` and `Settles` name, and the end
of the cycle the record, the lines, its window and the context that waits on it. -/
theorem cycleEnds : Obligations.CycleEnds := by
  intro s c hi hc ho hq hr i ast hevent
  obtain ⟨t, hexec, a, l, rfl, hcount, hsettled⟩ :
      ∃ t, exec i s = .next t ∧ s.EndsCycle t c ast (i = .properAcknowledge .accept) := by
    have hclear := s.countsAt_strikeClear c.window
    have hstrike := s.countsAt_strike c.window
    obtain ⟨rfl, rfl⟩ | ⟨rfl, hk, rfl⟩ | ⟨rfl, hk, rfl⟩ | ⟨status, hok, haccept, rfl, rfl⟩ | ⟨rfl, rfl⟩ := hevent
    · exact ⟨_, exec_properAcknowledge_ok hi hc, hclear.endsCycle_removed hc ho hq hr nofun _⟩
    · exact ⟨_, exec_properAcknowledge_accept hi hc hk, s.endsCycle_accepted hk rfl _⟩
    · exact ⟨_, exec_improperAcknowledge_accept hi hc hk, hstrike.endsCycle_removed hc ho hq hr nofun _⟩
    · exact ⟨_, exec_improperAcknowledge_error hi hc hok haccept, hstrike.endsCycle_removed hc ho hq hr nofun _⟩
    · exact ⟨_, exec_acknowledgeTimerExpiry_cycle hi hc, hstrike.endsCycle_removed hc ho hq hr nofun _⟩
  obtain ⟨windows, attention, rfl⟩ :
      ∃ windows attention, a = { s with windows := windows, attention := attention } := ⟨_, _, hcount.frame⟩
  have hort := State.endCycle_ort { s with windows := windows, attention := attention, ort := l } c ast
  refine ⟨_, hexec, State.endCycle_current .., State.endCycle_shown .., State.endCycle_released ..,
    fun tag hk ha => hort.trans (hsettled.waits tag hk ha), fun tag hk ha => hort.trans (hsettled.leaves tag hk ha),
    fun hk => hort.trans (hsettled.plain hk), State.endCycle_faultQueue .., State.endCycle_mastership ..,
    State.endCycle_slots .., State.endCycle_masters .., State.endCycle_strikeLimit .., State.endCycle_selection ..,
    State.endCycle_queue .., State.endCycle_pins .., State.endCycle_pending .., fun v hv => ?_, fun n hn => ?_,
    ?_, ?_⟩
  · exact (State.window_endCycle_ne _ ast hv).trans (hcount.other v hv)
  · exact State.context_endCycle_ne (hcount.waiting ▸ hn) ast
  · exact (congrArg Attention.slotLost (State.endCycle_attention ..)).trans hcount.slotLost
  · exact (congrArg Attention.orphanReply (State.endCycle_attention ..)).trans hcount.orphanReply

end Sys2Proof.Machine
end

section
/-!
PROOFS. A presence loss at the slot record, the current cycle and the attention records (O10), and the REINSTATE of a
SUSPENDED window (O47).
-/
namespace Sys2Proof.Machine

variable {s : State}

/-! ## Presence loss (R89, R91) -/

theorem exec_presenceLoss {k : SlotId} (hi : s.pins.init = false) (hk : k ≠ 0) (hp : s.prsLevel k = true) :
    exec (.presenceLoss k) s = .next ((s.movePrs k false).presenceLoss k) :=
  (if_pos ⟨hk, hp⟩).trans (State.whileRunning_released (s := s.movePrs k false) hi _)

@[simp] theorem State.movePrs_pins (s : State) (k : SlotId) (level : Bool) :
    (s.movePrs k level).pins = { s.pins with prs := s.pins.prs.set k level } := rfl

/-- Stage 5 raises SLOT-LOST and no other reason (R91, R155). -/
theorem State.raise_slotLost_attention (s : State) (subject : Nat) :
    (s.raise .slotLost subject).attention =
      { s.attention with slotLost := s.attention.slotLost.raise subject } := rfl

/-- Stage 3 on the slot of the current cycle (R91). -/
theorem State.withdrawCycle_on {c : CurrentCycle} (hc : s.current = some c) :
    s.withdrawCycle c.slot = (s.removeReserved c).endCycle c (.byPart .withdrawn) := by
  simp [State.withdrawCycle, hc]

/-- Stage 3 with no current cycle on the slot (R91). -/
theorem State.withdrawCycle_off {k : SlotId} (h : ∀ c, s.current = some c → c.slot ≠ k) : s.withdrawCycle k = s := by
  unfold State.withdrawCycle
  split
  · next c hc => exact if_neg (h c hc)
  · rfl

/-- Settles O10: each field is reached by one of the five stages at most. -/
theorem presenceLossSlotCycleAttention : Obligations.PresenceLossSlotCycleAttention := by
  intro s k hi hk hp
  refine ⟨_, exec_presenceLoss hi hk hp, ?_, fun j hj => ?_, fun c hc hslot => ?_, fun hoff => ?_, ?_⟩
  · simp [State.presenceLoss, SlotRecord.lost]
  · simp [State.presenceLoss, State.slot_setSlot, hj]
  · subst hslot
    simp [State.presenceLoss, State.withdrawCycle_on, hc, State.LinesReleased, Lines.onlyDrives_idle]
  · have hoff' : ∀ r, ∀ c, (((s.movePrs k false).setSlot k r).forceDrain k).current = some c → c.slot ≠ k := by
      simpa using fun _ => hoff
    simp [State.presenceLoss, State.withdrawCycle_off (hoff' _)]
  · simp [State.presenceLoss, State.raise_slotLost_attention, ReasonRecord.raisedTo_raise]

/-! ## REINSTATE (R54) -/

theorem exec_reinstate (s : State) : exec .reinstate s = s.take (isCommand .reinstate) reinstateEffect := rfl

/-- Settles O47: the common checks pass, and the effect is that of a SUSPENDED window. -/
theorem reinstateOutcome : Obligations.ReinstateOutcome := by
  intro s m rest cmd w htake hcode hmay hsuspended
  have hnamed : isCommand .reinstate cmd.code = true := isCommand_of (hcode ▸ commandOf_code .reinstate)
  rw [exec_reinstate, htake.take hnamed, reinstateEffect, hmay.windowCommand]
  simp only [State.taking_window, hsuspended]
  exact congrArg _ (s.taking_setWindow_done m rest w (s.window w).reinstated _)

end Sys2Proof.Machine
end

section
/-!
PROOFS. Split reads: the expiry of a deadline (O33), REPLY cycles that pass (O34) or are voided (O35), and the part's
own tenures (O36, O37).
-/
namespace Sys2Proof.Machine

variable {s : State}

/-! ## The fields that an operation can change -/

theorem State.assertRequest_frame (s : State) :
    ∃ mastership, s.assertRequest = { s with mastership := mastership } := by
  unfold State.assertRequest
  split
  · exact ⟨_, rfl⟩
  · exact ⟨s.mastership, rfl⟩
  · exact ⟨s.mastership, rfl⟩

theorem State.releaseRequest_frame (s : State) :
    ∃ mastership, s.releaseRequest = { s with mastership := mastership } := by
  unfold State.releaseRequest
  split
  · exact ⟨_, rfl⟩
  · exact ⟨s.mastership, rfl⟩

theorem State.strike_frame (s : State) (w : WindowId) :
    ∃ windows attention, s.strike w = { s with windows := windows, attention := attention } :=
  ⟨_, _, (s.countsAt_strike w).frame⟩

theorem State.strikeClear_frame (s : State) (w : WindowId) :
    ∃ windows, s.strikeClear w = { s with windows := windows } := by
  by_cases ha : (s.window w).state = .active
  · exact ⟨_, State.strikeClear_active ha⟩
  · exact ⟨s.windows, State.strikeClear_inactive ha⟩

theorem State.completeWaiter_frame (s : State) (o : Option MasterId) (code : ResultCode) (ws : Words) :
    ∃ contexts, s.completeWaiter o code ws = { s with contexts := contexts } := by
  cases o with
  | none => exact ⟨s.contexts, rfl⟩
  | some m => exact ⟨_, rfl⟩

/-- The drain check reaches window records and contexts alone (R133, R147). -/
theorem State.drainCheck_frame (s : State) (w : WindowId) :
    ∃ windows contexts, s.drainCheck w = { s with windows := windows, contexts := contexts } := by
  have unchanged : ∃ windows contexts, s = { s with windows := windows, contexts := contexts } :=
    ⟨s.windows, s.contexts, rfl⟩
  unfold State.drainCheck
  split
  · split
    · unfold State.applyChange
      dsimp only
      split
      · obtain ⟨contexts, heq⟩ := State.completeWaiter_frame (s.setWindow w _) (s.window w).waiting .done _
        exact ⟨_, contexts, heq⟩
      · exact unchanged
    · obtain ⟨contexts, heq⟩ := s.completeWaiter_frame (s.window w).waiting .done (retireWords w (s.window w))
      rw [State.becomeFree, heq]
      exact ⟨_, contexts, rfl⟩
    · exact unchanged
    · exact unchanged
    · exact unchanged
  · exact unchanged

/-- The removal of an entry reaches, besides ORT and fault-reply queue, what the drain check reaches (R81). -/
theorem State.removeEntry_frame (s : State) (e : OrtEntry) : ∃ windows contexts, s.removeEntry e =
    { s with
      windows := windows, contexts := contexts, ort := s.ort.filter (·.key != e.key),
      faultQueue := s.faultQueue.filter (· != e.key) } := (s.dropEntry e.key).drainCheck_frame e.window

/-- The removal of an entry leaves its window as it is when no drain check acts on it (R145). -/
theorem State.window_removeEntry_undrained {e : OrtEntry} (h : (s.window e.window).Undrained) :
    (s.removeEntry e).window e.window = s.window e.window := by
  have hidle : (s.dropEntry e.key).drainCheck e.window = s.dropEntry e.key := State.drainCheck_idle h.1 h.2
  rw [State.removeEntry, hidle]
  rfl

theorem Window.undrained_of_serving {win : Window} (h : win.state = .active ∨ win.state = .suspended) :
    win.Undrained := h.elim Window.undrained_of_active Window.undrained_of_suspended

/-- The removal of an entry reaches no context but the one that waits on its window. -/
theorem State.context_removeEntry_ne {e : OrtEntry} {n : MasterId} (h : (s.window e.window).waiting ≠ some n) :
    (s.removeEntry e).context n = s.context n :=
  State.context_drainCheck_ne (s := s.dropEntry e.key) h

/-! ## Deadlines (R64) -/

/-- The entry EXPIRED with SILENT at the tail of the fault-reply queue: the state in which R64 hands the strike. -/
def State.queueSilent (s : State) (e : OrtEntry) : State :=
  { s.setEntryState e.key (.expired .silent) with faultQueue := s.faultQueue ++ [e.key] }

theorem State.expireEntry_eq (s : State) (e : OrtEntry) :
    s.expireEntry e = ((s.queueSilent e).strike e.window).assertRequest := rfl

@[simp] theorem State.queueSilent_window (s : State) (e : OrtEntry) (v : WindowId) :
    (s.queueSilent e).window v = s.window v := rfl

/-- An entry is found by its pair, and a deadline acts on it while it is WAITING. -/
theorem State.OrtLaw.deadlineExpiry (h : s.OrtLaw) {e : OrtEntry} (he : e ∈ s.ort) {d : Nat}
    (hd : e.state = .waiting d) : s.deadlineExpiry e.key = s.expireEntry e := by
  simp only [State.deadlineExpiry, h.entry_eq he, hd]

theorem State.expireEntry_frame (s : State) (e : OrtEntry) : ∃ windows mastership attention, s.expireEntry e =
    { s.queueSilent e with windows := windows, mastership := mastership, attention := attention } := by
  obtain ⟨windows, attention, hstrike⟩ := (s.queueSilent e).strike_frame e.window
  obtain ⟨mastership, hrequest⟩ := ((s.queueSilent e).strike e.window).assertRequest_frame
  rw [s.expireEntry_eq, hrequest, hstrike]
  exact ⟨windows, mastership, attention, rfl⟩

/-- The strike of an expiry is the one handed to the entry's window. -/
theorem State.struck_expireEntry (s : State) (e : OrtEntry) : s.Struck (s.expireEntry e) e.window := by
  obtain ⟨counted, suspends, suspended, unraised⟩ :=
    ((s.queueSilent e).struck_strike e.window).of_later (u := s.expireEntry e) (by simp [s.expireEntry_eq])
      (by simp [s.expireEntry_eq])
  exact ⟨counted, suspends, suspended, unraised⟩

/-- Against a window that is not ACTIVE no strike counts, and an expiry makes no drain check (R48, R64). -/
theorem State.window_expireEntry_inactive {e : OrtEntry} (h : (s.window e.window).state ≠ .active) :
    (s.expireEntry e).window e.window = s.window e.window := by
  rw [s.expireEntry_eq, State.strike_inactive (s := s.queueSilent e) h, State.assertRequest_window,
    State.queueSilent_window]

theorem State.window_expireEntry_ne {e : OrtEntry} {v : WindowId} (h : v ≠ e.window) :
    (s.expireEntry e).window v = s.window v := by
  rw [s.expireEntry_eq, State.assertRequest_window, State.window_strike_ne _ h, State.queueSilent_window]

theorem State.expireEntry_mastership (s : State) (e : OrtEntry) :
    (s.expireEntry e).mastership = if s.mastership = .idle then .requesting else s.mastership := by
  rw [s.expireEntry_eq, State.assertRequest_mastership, State.strike_mastership]
  rfl

/-- Settles O33: the expiry queues the entry, hands the strike and asserts the request, each in its own fields. -/
theorem deadlineExpires : Obligations.DeadlineExpires := by
  intro s e d hi ho he hd
  have hexec : exec (.deadlineExpiry e.master e.tag) s = .next (s.expireEntry e) :=
    (exec_deadlineExpiry hi e.master e.tag).trans (congrArg _ (ho.deadlineExpiry he hd))
  have hmast := s.expireEntry_mastership e
  have hstruck := s.struck_expireEntry e
  refine ⟨_, hexec, ?_, ?_, fun hm => ?_, fun hm => ?_, hstruck, fun hw => ?_, fun v => State.window_expireEntry_ne⟩
  · obtain ⟨windows, mastership, attention, heq⟩ := s.expireEntry_frame e
    rw [heq]
    rfl
  · obtain ⟨windows, mastership, attention, heq⟩ := s.expireEntry_frame e
    rw [heq]
    simp [State.queueSilent, State.setEntryState_ort, OrtEntry.key]
  · rw [hmast, if_pos hm]
  · rw [hmast, if_neg hm]
  · have hinactive : (s.window e.window).state ≠ .active := by rintro ha; simp [ha] at hw
    exact ⟨State.window_expireEntry_inactive hinactive, hstruck.unraised hinactive⟩

/-! ## REPLY cycles (R65 to R71) -/

/-- On a ready bus a REPLY cycle is matched; its data is not examined (R71). -/
theorem State.BusReady.replyCycle (h : s.BusReady) (m : MasterId) (tag : Tag) (source : SlotId) (data : Word)
    (status : Status) : exec (.replyCycle m tag source data status) s = s.matchReply (m, tag) source status :=
  (State.whileRunning_released h.released _).trans (h.onFreeBus _)

/-- A reply from the slot of a WAITING entry (R66). -/
theorem State.OrtLaw.matchReply_waiting (h : s.OrtLaw) {e : OrtEntry} (he : e ∈ s.ort) {d : Nat}
    (hd : e.state = .waiting d) (status : Status) :
    s.matchReply e.key e.slot status = .next (s.passWaiting e status) := by
  simp only [State.matchReply, h.entry_eq he, hd, if_true]

/-- A reply from the slot of an EXPIRED SILENT entry (R67). -/
theorem State.OrtLaw.matchReply_silent (h : s.OrtLaw) {e : OrtEntry} (he : e ∈ s.ort)
    (hx : e.state = .expired .silent) (status : Status) :
    s.matchReply e.key e.slot status = .next (s.passExpired e status) := by
  simp only [State.matchReply, h.entry_eq he, hx, if_true]

/-- A reply without an entry, from another slot than the entry's, or to a WITHDRAWN entry (R68, R69). -/
theorem State.matchReply_voided {k : MasterId × Tag} {source : SlotId}
    (h : ∀ e ∈ s.ort, e.key = k → e.state ≠ .reserved ∧ (e.slot ≠ source ∨ e.state = .expired .withdrawn))
    (status : Status) : s.matchReply k source status = .next (s.voidReply source status) := by
  unfold State.matchReply
  split
  · rfl
  · next e hentry =>
    obtain ⟨he, hkey⟩ := State.mem_of_entry hentry
    obtain ⟨hreserved, hother⟩ := h e he hkey
    split
    · next hr => exact absurd hr hreserved
    · next d hd => exact if_neg (hother.resolve_right (by simp [hd]))
    · next hx => exact if_neg (hother.resolve_right (by simp [hx]))
    · rfl

theorem Lines.slaveReply_onlyDrives (status : Status) (void : Bool) :
    (Lines.slaveReply status void).OnlyDrives (.bySlave status) void where
  ast := rfl
  void := rfl
  sel := rfl
  quiet := Lines.onlyDrives_idle.quiet
  lof := rfl
  data := rfl
  source := rfl
  dest := rfl

/-- Settles O35: the voided reply drives VOID and raises one reason. -/
theorem replyVoided : Obligations.ReplyVoided := by
  intro s m tag source data status h hvoid
  refine ⟨s.voidReply source status, ?_, rfl, Lines.slaveReply_onlyDrives status true, Lines.onlyDrives_idle,
    s.attention.orphanReply.raisedTo_raise source.val, rfl, rfl⟩
  rw [h.replyCycle]
  refine State.matchReply_voided (fun e he hkey => ?_) status
  obtain ⟨hm, ht⟩ := Prod.mk.inj hkey
  exact hvoid e he hm ht

theorem State.strikesCleared_passWaiting (s : State) (e : OrtEntry) (status : Status) :
    s.StrikesCleared (s.passWaiting e status) e.window := by
  obtain ⟨cleared, suspended⟩ :=
    ((s.releaseLines (Lines.slaveReply status false)).strikesCleared_strikeClear e.window).of_later
      (u := s.passWaiting e status) State.window_removeEntry_undrained
  exact ⟨cleared, suspended⟩

theorem State.passWaiting_frame (s : State) (e : OrtEntry) (status : Status) :
    ∃ windows contexts, s.passWaiting e status =
      { s with
        windows := windows, contexts := contexts, lines := .idle, shown := .slaveReply status false,
        ort := s.ort.filter (·.key != e.key), faultQueue := s.faultQueue.filter (· != e.key) } := by
  obtain ⟨cleared, hclear⟩ := (s.releaseLines (Lines.slaveReply status false)).strikeClear_frame e.window
  rw [State.passWaiting, hclear]
  exact State.removeEntry_frame _ e

theorem State.passExpired_frame (s : State) (e : OrtEntry) (status : Status) :
    ∃ windows contexts mastership, s.passExpired e status =
      { s with
        windows := windows, contexts := contexts, lines := .idle, shown := .slaveReply status false,
        ort := s.ort.filter (·.key != e.key), faultQueue := s.faultQueue.filter (· != e.key),
        mastership := mastership } := by
  obtain ⟨windows, contexts, hremove⟩ := (s.releaseLines (Lines.slaveReply status false)).removeEntry_frame e
  obtain ⟨mastership, hrelease⟩ :=
    ((s.releaseLines (Lines.slaveReply status false)).removeEntry e).releaseRequest_frame
  rw [State.passExpired, hrelease, hremove]
  exact ⟨windows, contexts, mastership, rfl⟩

theorem State.passExpired_mastership (s : State) (e : OrtEntry) (status : Status) :
    (s.passExpired e status).mastership =
      if s.mastership = .requesting ∧ (s.passExpired e status).faultQueue = [] then .idle else s.mastership := by
  simp [State.passExpired, State.releaseRequest_mastership]

/-- Settles O34: the reply's event is `passWaiting` or `passExpired`, and the entry's removal is common to both. -/
theorem replyPasses : Obligations.ReplyPasses := by
  intro s e data status h ho hq he hstate
  have hexec := h.replyCycle e.master e.tag e.slot data status
  obtain ⟨d, hd⟩ | hx := hstate
  · have hkept := hq.filter_ne ho he (OrtEntry.not_isExpired_of_waiting hd)
    have hcounts := (s.releaseLines (Lines.slaveReply status false)).countsAt_strikeClear e.window
    refine ⟨s.passWaiting e status, hexec.trans (ho.matchReply_waiting he hd status), ?_, ?_, ?_,
      fun _ => ⟨?_, ?_, s.strikesCleared_passWaiting e status⟩, fun hx => ?_, fun v hv => ?_, fun n hn => ?_⟩
    · obtain ⟨windows, contexts, heq⟩ := s.passWaiting_frame e status
      rw [heq]
      rfl
    · simpa [State.passWaiting] using Lines.slaveReply_onlyDrives status false
    · simpa [State.LinesReleased, State.passWaiting] using Lines.onlyDrives_idle
    · simpa [State.passWaiting, State.removeEntry_faultQueue] using hkept
    · simp [State.passWaiting]
    · cases hd.symm.trans hx
    · exact (State.window_removeEntry_ne _ hv).trans (hcounts.other v hv)
    · exact (State.context_removeEntry_ne (by rw [hcounts.waiting]; exact hn)).trans (by simp)
  · have hmast := s.passExpired_mastership e status
    refine ⟨s.passExpired e status, hexec.trans (ho.matchReply_silent he hx status), ?_, ?_, ?_, fun ⟨d, hd⟩ => ?_,
      fun _ => ⟨?_, fun hr hempty => ?_, fun hkeep => ?_, fun hw => ?_⟩, fun v hv => ?_, fun n hn => ?_⟩
    · obtain ⟨windows, contexts, mastership, heq⟩ := s.passExpired_frame e status
      rw [heq]
      rfl
    · simpa [State.passExpired] using Lines.slaveReply_onlyDrives status false
    · simpa [State.LinesReleased, State.passExpired] using Lines.onlyDrives_idle
    · cases hd.symm.trans hx
    · simp [State.passExpired, State.removeEntry_faultQueue, OrtEntry.key]
    · rw [hmast, if_pos ⟨hr, hempty⟩]
    · rw [hmast, if_neg fun ⟨hr, hempty⟩ => hkeep.elim (· hr) (· hempty)]
    · rw [State.passExpired, State.releaseRequest_window]
      exact State.window_removeEntry_undrained (Window.undrained_of_serving hw)
    · rw [State.passExpired, State.releaseRequest_window]
      exact State.window_removeEntry_ne _ hv
    · rw [State.passExpired, State.releaseRequest_context]
      exact State.context_removeEntry_ne hn

/-! ## The part's own tenures (R77 to R79) -/

theorem exec_mastershipGrant (hi : s.pins.init = false) (hc : s.current = none) :
    exec .mastershipGrant s = .next s.grantTenure :=
  (State.whileRunning_released hi _).trans (if_neg (by simp [hc]))

/-- A tenure with nothing to deliver (R79). -/
theorem State.grantTenure_empty (hq : s.faultQueue = []) :
    s.grantTenure = { s with mastership := .idle }.releaseLines .idle := by
  simp only [State.grantTenure, hq]

/-- A tenure that delivers the fault reply of the head (R78). -/
theorem State.grantTenure_head {k : MasterId × Tag} {rest : List (MasterId × Tag)} (hq : s.faultQueue = k :: rest) :
    s.grantTenure = { s with mastership := .holding }.withLines (s.tenureLines k) := by
  simp only [State.grantTenure, hq]

theorem State.OrtLaw.tenureLines (h : s.OrtLaw) {e : OrtEntry} (he : e ∈ s.ort) {f : FaultStatus}
    (hx : e.state = .expired f) : s.tenureLines e.key = .faultReply e f := by
  simp only [State.tenureLines, h.entry_eq he, hx]

theorem exec_faultReplyEnd (hi : s.pins.init = false) (hm : s.mastership = .holding) {k : MasterId × Tag}
    {rest : List (MasterId × Tag)} (hq : s.faultQueue = k :: rest) :
    exec .faultReplyEnd s = .next (s.endFaultReply k) := by
  refine (State.whileRunning_released hi _).trans ?_
  simp only [hm, hq]

theorem State.OrtLaw.endFaultReply (h : s.OrtLaw) {e : OrtEntry} (he : e ∈ s.ort) :
    s.endFaultReply e.key = (s.removeEntry e).endTenure := by
  simp only [State.endFaultReply, h.entry_eq he]

/-- The head of the fault-reply queue stands there once, and its removal leaves the rest (R76). -/
theorem State.FaultQueueLaw.filter_head (h : s.FaultQueueLaw) {k : MasterId × Tag} {rest : List (MasterId × Tag)}
    (hq : s.faultQueue = k :: rest) : s.faultQueue.filter (· != k) = rest := by
  obtain ⟨hnew, -⟩ := List.nodup_cons.1 (hq ▸ h.1)
  rw [hq, List.filter_cons_of_neg (by simp), List.filter_eq_self]
  exact fun j hj => bne_iff_ne.2 fun hjk => hnew (hjk ▸ hj)

/-- Settles O37: with nothing to deliver the grant releases the bus at once. -/
theorem emptyTenure : Obligations.EmptyTenure := by
  intro s hi hc hq
  exact ⟨_, (exec_mastershipGrant hi hc).trans (congrArg _ (State.grantTenure_empty hq)), rfl,
    State.releaseLines_released _ _⟩

/-- Settles O36: the grant drives the head's reply, and its end is the entry's removal with the end of the tenure. -/
theorem faultReplyTenure : Obligations.FaultReplyTenure := by
  intro s e f rest hi hc ho hfq he hx (hq : s.faultQueue = e.key :: rest)
  refine ⟨?_, fun hm => ⟨(s.removeEntry e).endTenure, ?_, ?_, State.releaseLines_released _ _, fun hw => ?_,
    fun v hv => State.window_removeEntry_ne s hv, fun n hn => State.context_removeEntry_ne hn⟩⟩
  · rintro l rfl
    rw [exec_mastershipGrant hi hc, State.grantTenure_head hq, ho.tenureLines he hx]
    rfl
  · exact (exec_faultReplyEnd hi hm hq).trans (congrArg _ (ho.endFaultReply he))
  · obtain ⟨windows, contexts, heq⟩ := s.removeEntry_frame e
    rw [heq, hfq.filter_head hq]
    rfl
  · exact State.window_removeEntry_undrained (Window.undrained_of_serving hw)

end Sys2Proof.Machine
end

section
/-!
PROOFS. A presence loss at the Read Tracker (O11): the slot's RESERVED entry, its WAITING entries, and the strikes of
the windows that the event drains.
-/
namespace Sys2Proof.Machine

variable {s : State}

/-! ## The RESERVED entry of a slot (R38, R59, R91) -/

/-- A RESERVED entry of a slot is the entry of a current SPLIT READ on that slot (R38, R59). -/
theorem State.TrackerLaws.reserved_on_iff (h : s.TrackerLaws) {e : OrtEntry} (he : e ∈ s.ort) {k : SlotId} :
    e.slot = k ∧ e.state = .reserved ↔
      ∃ c, s.current = some c ∧ c.slot = k ∧ c.kind = .splitRead e.tag ∧ c.master = e.master := by
  constructor
  · rintro ⟨rfl, hr⟩
    obtain ⟨c, hc, hm, hk, -, hslot⟩ := h.reserved.of_entry e he hr
    exact ⟨c, hc, hslot, hk, hm⟩
  · rintro ⟨c, hc, rfl, hk, hm⟩
    obtain ⟨d, hd, hkey, hr, -, hslot⟩ := h.reserved.of_cycle c e.tag hc hk
    rw [h.ort.eq_of_key hd he (hkey.trans (congrArg (·, e.tag) hm))] at hr hslot
    exact ⟨hslot, hr⟩

/-- Stage 3 ends a current cycle on the slot, and does nothing without one (R91). -/
theorem State.withdrawCycle_cases (s : State) (k : SlotId) :
    (s.withdrawCycle k = s ∧ ∀ c, s.current = some c → c.slot ≠ k)
      ∨ ∃ c, s.current = some c ∧ c.slot = k
        ∧ s.withdrawCycle k = (s.removeReserved c).endCycle c (.byPart .withdrawn) := by
  by_cases hon : ∃ c, s.current = some c ∧ c.slot = k
  · obtain ⟨c, hc, rfl⟩ := hon
    exact .inr ⟨c, hc, rfl, State.withdrawCycle_on hc⟩
  · have hoff : ∀ c, s.current = some c → c.slot ≠ k := fun c hc hslot => hon ⟨c, hc, hslot⟩
    exact .inl ⟨State.withdrawCycle_off hoff, hoff⟩

/-- The ORT without the RESERVED entries of a slot that has none. -/
theorem State.ort_unreserved {k : SlotId} (h : ∀ e ∈ s.ort, ¬ (e.slot = k ∧ e.state = .reserved)) :
    s.ort.filter (fun e => !(e.slot == k && e.state == .reserved)) = s.ort :=
  List.filter_eq_self.2 fun e he => by
    rw [Bool.not_eq_true', ← Bool.not_eq_true, Bool.and_eq_true, beq_iff_eq, beq_iff_eq]
    exact h e he

/-- The entry that the current cycle takes with it is the RESERVED entry of its slot (R38, R62). -/
theorem State.TrackerLaws.removeReserved_ort (h : s.TrackerLaws) {c : CurrentCycle} (hc : s.current = some c) :
    (s.removeReserved c).ort = s.ort.filter fun e => !(e.slot == c.slot && e.state == .reserved) := by
  have own {d : OrtEntry} (hd : d ∈ s.ort) (hres : d.slot = c.slot ∧ d.state = .reserved) :
      c.kind = .splitRead d.tag ∧ c.master = d.master := h.reserved.own hc hd hres.2
  obtain ⟨heq, hnone⟩ | ⟨e, he, hk, hm, heq⟩ := s.removeReserved_cases c
  · rw [heq, State.ort_unreserved]
    intro d hd hres
    obtain ⟨hkd, hmd⟩ := own hd hres
    exact hnone d hd hkd hmd
  · rw [heq, State.removeEntry_ort]
    refine List.filter_congr fun d hd => ?_
    have hkey : d.key = e.key ↔ d.slot = c.slot ∧ d.state = .reserved := by
      refine ⟨fun hkey => ?_, fun hres => ?_⟩
      · exact h.ort.eq_of_key hd he hkey ▸ (h.reserved_on_iff he).2 ⟨c, hc, rfl, hk, hm⟩
      · obtain ⟨hkd, hmd⟩ := own hd hres
        have htag : d.tag = e.tag := by simpa [hk] using hkd.symm
        exact Prod.ext (hmd.symm.trans hm) htag
    refine congrArg (!·) (Bool.eq_iff_iff.2 ?_)
    rw [Bool.and_eq_true, beq_iff_eq, beq_iff_eq, beq_iff_eq]
    exact hkey

/-- Stage 3 takes the slot's RESERVED entry from the ORT, and no other (R91). -/
theorem State.TrackerLaws.withdrawCycle_ort (h : s.TrackerLaws) (k : SlotId) :
    (s.withdrawCycle k).ort = s.ort.filter fun e => !(e.slot == k && e.state == .reserved) := by
  obtain ⟨heq, hoff⟩ | ⟨c, hc, rfl, heq⟩ := s.withdrawCycle_cases k
  · rw [heq, State.ort_unreserved]
    intro e he hres
    obtain ⟨c, hc, hslot, -⟩ := (h.reserved_on_iff he).1 hres
    exact hoff c hc hslot
  · rw [heq, State.endCycle_ort, h.removeReserved_ort hc]

/-- Stage 3 leaves the fault-reply queue: a RESERVED entry does not stand in it (R76). -/
theorem State.TrackerLaws.withdrawCycle_faultQueue (h : s.TrackerLaws) (k : SlotId) :
    (s.withdrawCycle k).faultQueue = s.faultQueue := by
  obtain ⟨heq, -⟩ | ⟨c, hc, -, heq⟩ := s.withdrawCycle_cases k
  · rw [heq]
  · obtain ⟨l, hremoved, -⟩ := State.removeReserved_settles h.ort h.faultQueue h.reserved hc not_false 0
    rw [heq, State.endCycle_faultQueue, hremoved]

/-! ## The WAITING entries of a slot (R74) -/

/-- Stage 4 is an expiry of the slot's WAITING entries with WITHDRAWN (R74, R91). -/
theorem State.expires_withdrawEntries (s : State) (k : SlotId) :
    s.Expires (s.withdrawEntries k) (·.waitsOn k) .withdrawn := by
  refine ⟨fun e _ => OrtEntry.waitsOn_waiting, ?_, ?_, ?_, s.withdrawEntries_current k⟩
  all_goals
    unfold State.withdrawEntries
    dsimp only
    split <;> simp [OrtEntry.expire, State.assertRequest_mastership]

theorem OrtEntry.waitsOn_eq (e : OrtEntry) (k : SlotId) :
    e.waitsOn k = match e.state with
      | .waiting _ => e.slot == k
      | _ => false := by
  obtain ⟨m, tag, w, j, unit, st⟩ := e
  cases st with
  | reserved => rfl
  | waiting d => rfl
  | expired f => rfl

theorem OrtEntry.withdrawn_eq (e : OrtEntry) (k : SlotId) :
    (if e.waitsOn k then e.expire .withdrawn else e) = match e.state with
      | .waiting _ => if e.slot = k then { e with state := .expired .withdrawn } else e
      | _ => e := by
  obtain ⟨m, tag, w, j, unit, st⟩ := e
  cases st with
  | reserved => rfl
  | waiting d => simp [OrtEntry.waitsOn, OrtEntry.expire]
  | expired f => rfl

/-! ## Windows that are DRAINING after the event (R90, R145) -/

/-- A pending change that is applied makes its window ACTIVE (R133). -/
theorem State.applyChange_cases (s : State) (w : WindowId) :
    s.applyChange w = s ∨ ((s.applyChange w).window w).state = .active := by
  unfold State.applyChange
  dsimp only
  split
  · right
    rw [State.completeWaiter_window, State.window_setWindow_self]
    split <;> rfl
  · exact .inl rfl

/-- A drain check leaves no window DRAINING but as it found it (R145). -/
theorem State.window_drainCheck_of_draining {v w : WindowId}
    (h : ((s.drainCheck v).window w).state = .draining) : (s.drainCheck v).window w = s.window w := by
  by_cases hw : w = v
  · subst hw
    cases hs : (s.window w).state with
    | draining =>
      rw [State.window_drainCheck_draining hs] at h ⊢
      split at h
      · cases h
      · next hreferenced => exact if_neg hreferenced
    | held =>
      by_cases href : s.Referenced w
      · rw [State.drainCheck_referenced href]
      · rw [State.drainCheck_held href hs] at h ⊢
        obtain heq | hactive := s.applyChange_cases w
        · rw [heq]
        · cases hactive.symm.trans h
    | free | active | suspended => rw [State.drainCheck_idle (by simp [hs]) (by simp [hs])]
  · exact s.window_drainCheck_ne hw

/-- A forced drain ends in a drain check of its window or leaves it; either way no strike is counted or cleared before
the check (R90, Table 9-2). -/
theorem State.forceDrainOne_cases (s : State) (k : SlotId) (w : WindowId) :
    ((State.forceDrainOne k s w).window w).strikes = (s.window w).strikes
      ∨ ∃ a : State, (a.window w).strikes = (s.window w).strikes ∧ State.forceDrainOne k s w = a.drainCheck w := by
  have drained : ((s.setWindow w (s.window w).forceDrained).window w).strikes = (s.window w).strikes := by
    rw [State.window_setWindow_self]
    rfl
  unfold State.forceDrainOne
  dsimp only
  split
  · exact .inl rfl
  · split
    · exact .inr ⟨_, drained, rfl⟩
    · exact .inl rfl
  · split
    · exact .inr ⟨_, drained, rfl⟩
    · exact .inl rfl
  · split
    · exact .inr ⟨s, rfl, rfl⟩
    · exact .inl rfl
  · split
    · exact .inr ⟨_, by rw [State.completeWaiter_window, drained], rfl⟩
    · split
      · left
        rw [State.completeWaiter_window, State.window_setWindow_self]
        rfl
      · exact .inl rfl

/-- A forced drain keeps the strikes of a window that it leaves DRAINING (R90). -/
theorem State.strikes_forceDrain {k : SlotId} {w : WindowId} (h : ((s.forceDrain k).window w).state = .draining) :
    ((s.forceDrain k).window w).strikes = (s.window w).strikes := by
  rw [State.window_forceDrain] at h ⊢
  obtain hkept | ⟨a, hkept, heq⟩ := s.forceDrainOne_cases k w
  · exact hkept
  · rw [heq] at h ⊢
    rw [State.window_drainCheck_of_draining h, hkept]

/-- Stage 3 leaves no window DRAINING but as it found it (R91, R145). -/
theorem State.window_withdrawCycle_of_draining {k : SlotId} {w : WindowId}
    (h : ((s.withdrawCycle k).window w).state = .draining) : (s.withdrawCycle k).window w = s.window w := by
  obtain ⟨heq, -⟩ | ⟨c, -, -, heq⟩ := s.withdrawCycle_cases k
  · rw [heq]
  · rw [heq] at h ⊢
    have hend : ((s.removeReserved c).endCycle c (.byPart .withdrawn)).window w = (s.removeReserved c).window w :=
      State.window_drainCheck_of_draining h
    rw [hend] at h ⊢
    obtain ⟨hnone, -⟩ | ⟨e, -, -, -, hremoved⟩ := s.removeReserved_cases c
    · rw [hnone]
    · rw [hremoved] at h ⊢
      exact State.window_drainCheck_of_draining (s := s.dropEntry e.key) h

/-! ## The whole event -/

theorem State.presenceLoss_eq (s : State) (k : SlotId) : s.presenceLoss k =
    ((((s.setSlot k (s.slot k).lost).forceDrain k).withdrawCycle k).withdrawEntries k).raise .slotLost k.val := rfl

/-- Stages 1 and 2 leave the Read Tracker alone (R89). -/
theorem State.TrackerLaws.drained (h : s.TrackerLaws) (k : SlotId) (r : SlotRecord) :
    ((s.setSlot k r).forceDrain k).TrackerLaws := h.of_tracker (by simp)

/-- The RESERVED entry of the slot leaves, then its WAITING entries expire (R74, R91). -/
theorem State.TrackerLaws.presenceLoss_ort (h : s.TrackerLaws) (k : SlotId) :
    (s.presenceLoss k).ort = (s.ort.filter fun e => !(e.slot == k && e.state == .reserved)).map fun e =>
      if e.waitsOn k then e.expire .withdrawn else e := by
  rw [s.presenceLoss_eq, State.raise_ort, (State.expires_withdrawEntries _ k).ort,
    (h.drained k _).withdrawCycle_ort, State.forceDrain_ort, State.setSlot_ort]

/-- The WAITING entries of the slot join the tail of the fault-reply queue in their creation order (R74). -/
theorem State.TrackerLaws.presenceLoss_faultQueue (h : s.TrackerLaws) (k : SlotId) :
    (s.presenceLoss k).faultQueue = s.faultQueue ++ (s.ort.filter (·.waitsOn k)).map (·.key) := by
  rw [s.presenceLoss_eq, State.raise_faultQueue, (State.expires_withdrawEntries _ k).faultQueue,
    (h.drained k _).withdrawCycle_faultQueue, (h.drained k _).withdrawCycle_ort, State.forceDrain_faultQueue,
    State.setSlot_faultQueue, State.forceDrain_ort, State.setSlot_ort, List.filter_filter]
  refine congrArg (s.faultQueue ++ List.map _ ·) (List.filter_congr fun e _ => ?_)
  cases hw : e.waitsOn k with
  | false => rfl
  | true =>
    obtain ⟨d, hd⟩ := OrtEntry.waitsOn_waiting hw
    simp [hd]

/-- The request is asserted if entries joined while IDLE; the queue was empty then (R74, R77). -/
theorem State.TrackerLaws.presenceLoss_mastership (h : s.TrackerLaws) (k : SlotId) :
    (s.presenceLoss k).mastership =
      if s.mastership = .idle ∧ (s.presenceLoss k).faultQueue ≠ [] then .requesting else s.mastership := by
  have hx := (((s.setSlot k (s.slot k).lost).forceDrain k).withdrawCycle k).expires_withdrawEntries k
  rw [s.presenceLoss_eq, State.raise_mastership, State.raise_faultQueue, hx.mastership, hx.faultQueue,
    (h.drained k _).withdrawCycle_faultQueue, State.assertRequest_mastership, State.withdrawCycle_mastership,
    State.forceDrain_mastership, State.setSlot_mastership, State.forceDrain_faultQueue, State.setSlot_faultQueue]
  generalize List.map _ (List.filter _ _) = joining
  by_cases hm : s.mastership = .idle
  · have hempty := h.mastership.1.1 hm
    simp [hm, hempty]
  · simp [hm]

/-- A presence loss keeps the strikes of a window that it leaves DRAINING (R90, R91). -/
theorem State.strikes_presenceLoss {k : SlotId} {w : WindowId}
    (h : ((s.presenceLoss k).window w).state = .draining) :
    ((s.presenceLoss k).window w).strikes = (s.window w).strikes := by
  rw [s.presenceLoss_eq, State.raise_window, State.withdrawEntries_window] at h ⊢
  have hcycle := State.window_withdrawCycle_of_draining h
  rw [hcycle] at h ⊢
  rw [State.strikes_forceDrain h, State.setSlot_window]

/-- Settles O11: the edge moves the pins alone, and the five stages reach the Read Tracker in stages 3 and 4 only. -/
theorem presenceLossReads : Obligations.PresenceLossReads := by
  intro s k hl hi hk hp
  have laws : (s.movePrs k false).TrackerLaws :=
    State.TrackerLaws.of_tracker ⟨hl.ort, hl.faultQueue, hl.mastership, hl.reserved⟩ (s.tracker_movePrs k false)
  have hmast := laws.presenceLoss_mastership k
  refine ⟨_, exec_presenceLoss hi hk hp, (laws.presenceLoss_ort k).trans ?_, (laws.presenceLoss_faultQueue k).trans ?_,
    fun hm hne => hmast.trans (if_pos ⟨hm, hne⟩),
    fun hkeep => hmast.trans (if_neg fun ⟨hm, hne⟩ => hkeep.elim (· hm) hne), fun w => State.strikes_presenceLoss⟩
  · exact List.map_congr_left fun e _ => e.withdrawn_eq k
  · exact congrArg (s.faultQueue ++ List.map _ ·) (List.filter_congr fun e _ => e.waitsOn_eq k)

end Sys2Proof.Machine
end

section
/-!
PROOFS. The laws of the Command Engine and of the waits (O56): what each operation does to the window records, the
contexts and the command queue, and that every step keeps both laws.
-/
namespace Sys2Proof.Machine

variable {s t : State} {taker : Option MasterId} {m : MasterId} {w : WindowId}

/-! ## The laws record by record -/

/-- R105, R114, R120: what the state of one context says of its other fields. An ACTIVE context has its command still
captured (R110). -/
structure Context.Sound (c : Context) : Prop where
  captured : c.captured.isSome = true ↔ c.state = .queued ∨ c.state = .waiting ∨ c.state = .active
  result : c.state ≠ .complete → c.result = .none ∧ c.results = .zero
  waits_on : c.waitingWindow.isSome = true ↔ c.state = .waiting

/-- R8, R9: what the state of one window says of its pending change and its waiting context. -/
structure Window.Sound (win : Window) : Prop where
  change_iff_held : win.change.isSome = true ↔ win.state = .held
  held_waits : win.state = .held → win.waiting.isSome = true
  waiting_state : win.waiting.isSome = true → win.state = .held ∨ win.state = .draining

/-- The command that may wait on a window in this state: a MOVE or a RESIZE while HELD, a RETIRE while DRAINING
(R114). -/
def WinState.AwaitedBy (st : WinState) (command : Option Command) : Prop :=
  (st = .held → command = some .move ∨ command = some .resize) ∧ (st = .draining → command = some .retire)

/-- The laws of the Command Engine and of the waits as they stand within a take: the taker's context, and no other, is
ACTIVE (R110). Without a taker they are `QueueLaw` and `WaitLaw`. -/
structure State.EngineLaws (s : State) (taker : Option MasterId) : Prop where
  window : ∀ w, (s.window w).Sound
  context : ∀ m, (s.context m).Sound
  nodup : s.queue.Nodup
  queued : ∀ m, m ∈ s.queue ↔ (s.context m).state = .queued
  active : ∀ m, (s.context m).state = .active ↔ taker = some m
  named : ∀ w m, (s.window w).waiting = some m ↔
    (s.context m).state = .waiting ∧ (s.context m).waitingWindow = some w
  awaited : ∀ w m, (s.window w).waiting = some m → (s.window w).state.AwaitedBy (s.context m).command

theorem State.engineLaws_none_iff : s.EngineLaws none ↔ s.QueueLaw ∧ s.WaitLaw := by
  constructor
  · intro h
    have not_active (m : MasterId) : (s.context m).state ≠ .active := fun ha => by simpa using (h.active m).1 ha
    refine ⟨⟨h.nodup, h.queued, not_active, fun m => ?_, fun m => (h.context m).result⟩,
      ⟨fun w => (h.window w).change_iff_held, fun w => (h.window w).held_waits, fun w => (h.window w).waiting_state,
        h.named, fun m => (h.context m).waits_on, fun w m hs hw => (h.awaited w m hw).1 hs,
        fun w m hs hw => (h.awaited w m hw).2 hs⟩⟩
    simpa [not_active m] using (h.context m).captured
  · rintro ⟨hq, hw⟩
    refine ⟨fun w => ⟨hw.change_iff_held w, hw.held_waits w, hw.waiting_state w⟩, fun m => ⟨?_, hq.result m,
      hw.waits_on m⟩, hq.nodup, hq.queued, fun m => by simp [hq.not_active m], hw.named,
      fun w m hm => ⟨fun hs => hw.held_command w m hs hm, fun hs => hw.draining_command w m hs hm⟩⟩
    simpa [hq.not_active m] using hq.captured m

/-- Two window records that the laws do not tell apart: the same state, the same waiting context, a pending change in
both or in neither. -/
structure Window.Alike (r win : Window) : Prop where
  state : r.state = win.state
  change : r.change.isSome = win.change.isSome
  waiting : r.waiting = win.waiting

theorem Window.Alike.refl (win : Window) : win.Alike win := ⟨rfl, rfl, rfl⟩

theorem Window.Alike.sound {r win : Window} (h : r.Alike win) (hw : win.Sound) : r.Sound where
  change_iff_held := by rw [h.change, h.state]; exact hw.change_iff_held
  held_waits := by rw [h.state, h.waiting]; exact hw.held_waits
  waiting_state := by rw [h.waiting, h.state]; exact hw.waiting_state

theorem Window.alike_struck (win : Window) : win.struck.Alike win := ⟨rfl, rfl, rfl⟩

theorem Window.alike_unstruck (win : Window) : win.unstruck.Alike win := ⟨rfl, rfl, rfl⟩

theorem Window.alike_withLength (win : Window) (length : Nat) : (win.withLength length).Alike win := ⟨rfl, rfl, rfl⟩

theorem Window.alike_reshaped (win : Window) (c : PendingChange) : (win.reshaped c).unstruck.Alike win :=
  ⟨rfl, rfl, rfl⟩

theorem Window.alike_withLayer (win : Window) (layer : Fin 4) : (win.withLayer layer).Alike win := ⟨rfl, rfl, rfl⟩

theorem Window.alike_withSets (win : Window) (readSet writeSet : MasterSet) :
    (win.withSets readSet writeSet).Alike win := ⟨rfl, rfl, rfl⟩

theorem Window.alike_withSponsor (win : Window) (sponsor : MasterId) : (win.withSponsor sponsor).Alike win :=
  ⟨rfl, rfl, rfl⟩

/-- Two contexts that the laws do not tell apart: equal but for their staging words and their overrun flags. -/
structure Context.Alike (c d : Context) : Prop where
  state : c.state = d.state
  captured : c.captured = d.captured
  result : c.result = d.result
  results : c.results = d.results
  waitingWindow : c.waitingWindow = d.waitingWindow

theorem Context.Alike.refl (c : Context) : c.Alike c := ⟨rfl, rfl, rfl, rfl, rfl⟩

theorem Context.Alike.sound {c d : Context} (h : c.Alike d) (hd : d.Sound) : c.Sound where
  captured := by rw [h.captured, h.state]; exact hd.captured
  result := by rw [h.state, h.result, h.results]; exact hd.result
  waits_on := by rw [h.waitingWindow, h.state]; exact hd.waits_on

theorem Context.Alike.command {c d : Context} (h : c.Alike d) : c.command = d.command := by
  rw [Context.command, h.captured, Context.command]

theorem Context.alike_withOverrun (c : Context) : c.withOverrun.Alike c := ⟨rfl, rfl, rfl, rfl, rfl⟩

/-- An event that leaves the command queue, and window records and contexts but for what no law reads, keeps the
laws. -/
theorem State.EngineLaws.of_alike (h : s.EngineLaws taker) (hw : ∀ w, (t.window w).Alike (s.window w))
    (hc : ∀ m, (t.context m).Alike (s.context m)) (hq : t.queue = s.queue) : t.EngineLaws taker where
  window w := (hw w).sound (h.window w)
  context m := (hc m).sound (h.context m)
  nodup := by rw [hq]; exact h.nodup
  queued m := by rw [hq, (hc m).state]; exact h.queued m
  active m := by rw [(hc m).state]; exact h.active m
  named w m := by rw [(hw w).waiting, (hc m).state, (hc m).waitingWindow]; exact h.named w m
  awaited w m := by rw [(hw w).waiting, (hw w).state, (hc m).command]; exact h.awaited w m

/-- The laws read the window records, the contexts and the command queue alone. -/
theorem State.EngineLaws.of_fields (h : s.EngineLaws taker) (hw : t.windows = s.windows)
    (hc : t.contexts = s.contexts) (hq : t.queue = s.queue) : t.EngineLaws taker := by
  refine h.of_alike (fun w => ?_) (fun m => ?_) hq
  · rw [State.window, hw]; exact .refl _
  · rw [State.context, hc]; exact .refl _

/-! ## Records on which nothing waits -/

/-- A window that no command waits on, and that has no change pending. -/
structure Window.Idle (win : Window) : Prop where
  not_held : win.state ≠ .held
  change : win.change = none
  waiting : win.waiting = none

theorem Window.Idle.sound {win : Window} (h : win.Idle) : win.Sound where
  change_iff_held := by simp [h.change, h.not_held]
  held_waits := fun hs => absurd hs h.not_held
  waiting_state := by simp [h.waiting]

/-- R8, R9: only a HELD or a DRAINING window is waited on. -/
theorem Window.Sound.idle {win : Window} (h : win.Sound) (hs : win.Undrained) : win.Idle where
  not_held := hs.1
  change := by simpa [hs.1] using h.change_iff_held
  waiting := by
    rw [← Option.not_isSome_iff_eq_none]
    exact fun hw => (h.waiting_state hw).elim hs.1 hs.2

theorem Window.idle_cleared : Window.cleared.Idle := ⟨nofun, rfl, rfl⟩

theorem Window.idle_released (win : Window) : win.released.Idle := ⟨nofun, rfl, rfl⟩

theorem Window.idle_forceDrained (win : Window) : win.forceDrained.Idle := ⟨nofun, rfl, rfl⟩

theorem Context.sound_completed (c : Context) (code : ResultCode) (ws : Words) : (c.completed code ws).Sound where
  captured := by simp [Context.completed]
  result := by simp [Context.completed]
  waits_on := by simp [Context.completed]

theorem Context.sound_reset : Context.reset.Sound := ⟨by decide, fun _ => ⟨rfl, rfl⟩, by decide⟩

/-! ## Contexts written -/

theorem State.EngineLaws.setContext_alike (h : s.EngineLaws taker) {c : Context} (hc : c.Alike (s.context m)) :
    (s.setContext m c).EngineLaws taker := by
  refine h.of_alike (fun w => .refl _) (fun n => ?_) rfl
  rw [State.context_setContext]
  split
  · next hn => exact hn ▸ hc
  · exact .refl _

/-- A context that waits on no window is written and still waits on none; the queue and the taker follow it
(R106, R110, R113, R116). -/
theorem State.EngineLaws.setContext_unwaiting (h : s.EngineLaws taker) {c : Context} {queue : List MasterId}
    {taker' : Option MasterId} (hs : (s.context m).state ≠ .waiting) (hc : c.Sound) (hw : c.state ≠ .waiting)
    (hnodup : queue.Nodup) (hqueue : ∀ n, n ≠ m → (n ∈ queue ↔ n ∈ s.queue))
    (hqueued : m ∈ queue ↔ c.state = .queued) (htaker : ∀ n, n ≠ m → (taker' = some n ↔ taker = some n))
    (hactive : c.state = .active ↔ taker' = some m) :
    ({ s.setContext m c with queue := queue } : State).EngineLaws taker' := by
  have self : ({ s.setContext m c with queue := queue } : State).context m = c := s.context_setContext_self m c
  have other {n : MasterId} (hn : n ≠ m) :
      ({ s.setContext m c with queue := queue } : State).context n = s.context n := s.context_setContext_ne c hn
  have unnamed (v : WindowId) : (s.window v).waiting ≠ some m := fun hv => hs ((h.named v m).1 hv).1
  refine ⟨h.window, fun n => ?_, hnodup, fun n => ?_, fun n => ?_, fun v n => ?_, fun v n hv => ?_⟩
  all_goals
    obtain rfl | hn := Decidable.em (n = m)
  · rwa [self]
  · rw [other hn]; exact h.context n
  · rwa [self]
  · rw [other hn]; exact (hqueue n hn).trans (h.queued n)
  · rwa [self]
  · rw [other hn, h.active, htaker n hn]
  · rw [self]; exact iff_of_false (unnamed v) fun hv => hw hv.1
  · rw [other hn]; exact h.named v n
  · exact absurd hv (unnamed v)
  · rw [other hn]; exact h.awaited v n hv

/-- A QUEUED command that is withdrawn: the master leaves the queue at whatever place it holds (R99, R116). -/
theorem State.EngineLaws.withdraw (h : s.EngineLaws taker) (hs : (s.context m).state = .queued) (code : ResultCode)
    (ws : Words) : ({ s.complete m code ws with queue := s.queue.filter (· != m) } : State).EngineLaws taker := by
  have not_taker : taker ≠ some m := fun ht => by simpa [hs] using (h.active m).2 ht
  refine h.setContext_unwaiting (by simp [hs]) (Context.sound_completed _ code ws) nofun (h.nodup.filter _)
    (fun n hn => ?_) ?_ (fun n hn => .rfl) (iff_of_false nofun not_taker)
  · simp [hn]
  · exact iff_of_false (by simp) nofun

/-- The take's own completion ends it (R113). -/
theorem State.EngineLaws.complete (h : s.EngineLaws (some m)) (code : ResultCode) (ws : Words) :
    (s.complete m code ws).EngineLaws none := by
  have active := (h.active m).2 rfl
  have not_queued : m ∉ s.queue := fun hq => by simpa [active] using (h.queued m).1 hq
  refine h.setContext_unwaiting (by simp [active]) (Context.sound_completed _ code ws) nofun h.nodup (fun n hn => .rfl)
    (iff_of_false not_queued nofun) (fun n hn => ?_) (iff_of_false nofun nofun)
  exact iff_of_false nofun fun he => hn (Option.some.inj he).symm

theorem State.EngineLaws.refuse (h : s.EngineLaws (some m)) (code : ResultCode) : (s.refuse m code).EngineLaws none :=
  h.complete code _

theorem State.EngineLaws.done (h : s.EngineLaws (some m)) (ws : Words) : (s.done m ws).EngineLaws none :=
  h.complete .done ws

/-- A take begins: the head leaves the queue and its context becomes ACTIVE (R110). -/
theorem State.EngineLaws.taking (h : s.EngineLaws none) {rest : List MasterId} (hq : s.queue = m :: rest) :
    (s.taking m rest).EngineLaws (some m) := by
  have queued : (s.context m).state = .queued := (h.queued m).1 (by simp [hq])
  obtain ⟨captured, result, waits_on⟩ := h.context m
  obtain ⟨hm, hrest⟩ := List.nodup_cons.1 (hq ▸ h.nodup)
  refine h.setContext_unwaiting (c := (s.context m).taken) (by simp [queued])
    ⟨?_, fun _ => result (by simp [queued]), ?_⟩ nofun hrest (fun n hn => ?_) (iff_of_false hm nofun)
    (fun n hn => ?_) (iff_of_true rfl rfl)
  · exact iff_of_true (captured.2 (.inl queued)) (.inr (.inr rfl))
  · exact iff_of_false (by simp [waits_on, queued, Context.taken]) nofun
  · simp [hq, hn]
  · exact iff_of_false (fun he => hn (Option.some.inj he).symm) nofun

/-! ## Windows written -/

theorem State.EngineLaws.setWindow_alike (h : s.EngineLaws taker) {r : Window} (hr : r.Alike (s.window w)) :
    (s.setWindow w r).EngineLaws taker := by
  refine h.of_alike (fun v => ?_) (fun n => .refl _) rfl
  rw [State.window_setWindow]
  split
  · next hv => exact hv ▸ hr
  · exact .refl _

/-- A command that writes a field that no wait depends on, and is whole at its take. -/
theorem State.EngineLaws.setWindow_done (h : s.EngineLaws (some m)) {r : Window} (hr : r.Alike (s.window w))
    (ws : Words) : ((s.setWindow w r).done m ws).EngineLaws none := (h.setWindow_alike hr).done ws

/-- A context waits on one window at most (R114). -/
theorem State.EngineLaws.waits_on_one (h : s.EngineLaws taker) {v : WindowId} (hv : (s.window v).waiting = some m)
    (hw : (s.window w).waiting = some m) : v = w := by
  obtain ⟨-, hv⟩ := (h.named v m).1 hv
  obtain ⟨-, hw⟩ := (h.named w m).1 hw
  exact Option.some.inj (hv.symm.trans hw)

/-- A window becomes idle and the context that waits on it, if any, is completed: the end of a wait (R115). -/
theorem State.EngineLaws.endWait (h : s.EngineLaws taker) {r : Window} (hr : r.Idle) (code : ResultCode) (ws : Words) :
    ((s.setWindow w r).completeWaiter (s.window w).waiting code ws).EngineLaws taker := by
  have waits {n : MasterId} (hn : (s.window w).waiting = some n) : (s.context n).state = .waiting :=
    ((h.named w n).1 hn).1
  have self {n : MasterId} (hn : (s.window w).waiting = some n) :
      ((s.setWindow w r).completeWaiter (s.window w).waiting code ws).context n
        = (s.context n).completed code ws := by
    rw [State.context_completeWaiter, if_pos hn, State.setWindow_context]
  have other {n : MasterId} (hn : (s.window w).waiting ≠ some n) :
      ((s.setWindow w r).completeWaiter (s.window w).waiting code ws).context n = s.context n := by
    rw [State.context_completeWaiter_ne hn, State.setWindow_context]
  refine ⟨fun v => ?_, fun n => ?_, ?_, fun n => ?_, fun n => ?_, fun v n => ?_, fun v n => ?_⟩
  · rw [State.completeWaiter_window, State.window_setWindow]
    split
    · exact hr.sound
    · exact h.window v
  · by_cases hn : (s.window w).waiting = some n
    · rw [self hn]; exact Context.sound_completed _ code ws
    · rw [other hn]; exact h.context n
  · simpa using h.nodup
  · rw [State.completeWaiter_queue, State.setWindow_queue, h.queued]
    by_cases hn : (s.window w).waiting = some n
    · rw [self hn]; exact iff_of_false (by simp [waits hn]) nofun
    · rw [other hn]
  · rw [← h.active]
    by_cases hn : (s.window w).waiting = some n
    · rw [self hn]; exact iff_of_false nofun (by simp [waits hn])
    · rw [other hn]
  · rw [State.completeWaiter_window, State.window_setWindow]
    by_cases hn : (s.window w).waiting = some n
    · rw [self hn]
      refine iff_of_false ?_ (fun hv => nomatch hv.1)
      split
      · simp [hr.waiting]
      · next hv => exact fun hvn => hv (h.waits_on_one hvn hn)
    · rw [other hn, ← h.named v n]
      split
      · next hv => simp [hr.waiting, hv, hn]
      · exact .rfl
  · rw [State.completeWaiter_window, State.window_setWindow]
    split
    · simp [hr.waiting]
    · next hv =>
      intro hvn
      rw [other fun hwn => hv (h.waits_on_one hvn hwn)]
      exact h.awaited v n hvn

/-- A window that nothing waits on is written and is idle then: no context is reached. -/
theorem State.EngineLaws.setWindow_idle (h : s.EngineLaws taker) {r : Window} (hw : (s.window w).waiting = none)
    (hr : r.Idle) : (s.setWindow w r).EngineLaws taker := by
  have hend := h.endWait (w := w) hr .none .zero
  rwa [hw] at hend

theorem State.EngineLaws.idle (h : s.EngineLaws taker) (hs : (s.window w).Undrained) : (s.window w).Idle :=
  (h.window w).idle hs

/-- A take leaves its command waiting on a window that nothing waited on (R114). -/
theorem State.EngineLaws.awaitWindow (h : s.EngineLaws (some m)) {win : Window} (hw : (s.window w).waiting = none)
    (hs : win.state = .held ∨ win.state = .draining) (hc : win.change.isSome = true ↔ win.state = .held)
    (ha : win.state.AwaitedBy (s.context m).command) : (s.awaitWindow m w win).EngineLaws none := by
  have active := (h.active m).2 rfl
  obtain ⟨captured, result, waits_on⟩ := h.context m
  have self : (s.awaitWindow m w win).context m = (s.context m).waitingOn w := State.context_setContext_self _ m _
  have other {n : MasterId} (hn : n ≠ m) : (s.awaitWindow m w win).context n = s.context n :=
    State.context_setContext_ne _ _ hn
  have unnamed (v : WindowId) : (s.window v).waiting ≠ some m := fun hv => by
    simpa [active] using ((h.named v m).1 hv).1
  have window (v : WindowId) :
      (s.awaitWindow m w win).window v = if v = w then { win with waiting := some m } else s.window v :=
    s.window_setWindow v w _
  refine ⟨fun v => ?_, fun n => ?_, h.nodup, fun n => ?_, fun n => ?_, fun v n => ?_, fun v n => ?_⟩
  · rw [window]
    split
    · exact ⟨hc, fun _ => rfl, fun _ => hs⟩
    · exact h.window v
  · obtain rfl | hn := Decidable.em (n = m)
    · rw [self]
      exact ⟨iff_of_true (captured.2 (.inr (.inr active))) (.inr (.inl rfl)), fun _ => result (by simp [active]),
        iff_of_true rfl rfl⟩
    · rw [other hn]; exact h.context n
  · refine (h.queued n).trans ?_
    obtain rfl | hn := Decidable.em (n = m)
    · rw [self]; exact iff_of_false (by simp [active]) nofun
    · rw [other hn]
  · obtain rfl | hn := Decidable.em (n = m)
    · rw [self]; exact iff_of_false nofun nofun
    · rw [other hn, h.active]
      exact iff_of_false (fun he => hn (Option.some.inj he).symm) nofun
  · rw [window]
    obtain rfl | hn := Decidable.em (n = m)
    · rw [self]
      split
      · next hv => simp [Context.waitingOn, hv]
      · next hv => exact iff_of_false (unnamed v) fun hx => hv (Option.some.inj hx.2).symm
    · rw [other hn, ← h.named]
      split
      · next hv => simp [hv, hw, Ne.symm hn]
      · exact .rfl
  · rw [window]
    split
    · intro hn
      obtain rfl := Option.some.inj hn
      rw [self]
      exact ha
    · intro hn
      rw [other fun hnm => unnamed v (hnm ▸ hn)]
      exact h.awaited v n hn

/-! ## Shared operations -/

theorem State.EngineLaws.raise (h : s.EngineLaws taker) (r : Reason) (n : Nat) : (s.raise r n).EngineLaws taker :=
  h.of_fields rfl rfl rfl

/-- A strike reaches an ACTIVE window only, which nothing waits on (R48, R52). -/
theorem State.EngineLaws.strike (h : s.EngineLaws taker) (w : WindowId) : (s.strike w).EngineLaws taker := by
  by_cases ha : (s.window w).state = .active
  · obtain ⟨-, change, waiting⟩ := h.idle (Window.undrained_of_active ha)
    by_cases hl : (s.window w).strikes + 1 = s.strikeLimit
    · rw [State.strike_limit ha hl]
      exact (h.setWindow_idle (r := (s.window w).struck.suspend) waiting ⟨nofun, change, waiting⟩).raise _ _
    · rw [State.strike_below ha hl]
      exact h.setWindow_alike (Window.alike_struck _)
  · rw [State.strike_inactive ha]
    exact h

theorem State.EngineLaws.strikeClear (h : s.EngineLaws taker) (w : WindowId) : (s.strikeClear w).EngineLaws taker := by
  by_cases ha : (s.window w).state = .active
  · rw [State.strikeClear_active ha]
    exact h.setWindow_alike (Window.alike_unstruck _)
  · rw [State.strikeClear_inactive ha]
    exact h

theorem State.EngineLaws.applyChange (h : s.EngineLaws taker) (w : WindowId) : (s.applyChange w).EngineLaws taker := by
  unfold State.applyChange
  dsimp only
  split
  · next c _ =>
    refine h.endWait ?_ .done _
    split <;> exact ⟨nofun, rfl, rfl⟩
  · exact h

/-- A window written and a waiting context completed are apart. -/
theorem State.setWindow_completeWaiter (s : State) (w : WindowId) (r : Window) (o : Option MasterId)
    (code : ResultCode) (ws : Words) :
    (s.completeWaiter o code ws).setWindow w r = (s.setWindow w r).completeWaiter o code ws := by
  cases o <;> rfl

theorem State.EngineLaws.becomeFree (h : s.EngineLaws taker) (w : WindowId) : (s.becomeFree w).EngineLaws taker := by
  rw [State.becomeFree, State.setWindow_completeWaiter]
  exact h.endWait Window.idle_cleared .done _

theorem State.EngineLaws.drainCheck (h : s.EngineLaws taker) (w : WindowId) : (s.drainCheck w).EngineLaws taker := by
  unfold State.drainCheck
  split
  · split
    · exact h.applyChange w
    · exact h.becomeFree w
    · exact h
    · exact h
    · exact h
  · exact h

theorem State.EngineLaws.removeEntry (h : s.EngineLaws taker) (e : OrtEntry) : (s.removeEntry e).EngineLaws taker :=
  (h.of_fields (t := s.dropEntry e.key) rfl rfl rfl).drainCheck e.window

theorem State.EngineLaws.removeReserved (h : s.EngineLaws taker) (c : CurrentCycle) :
    (s.removeReserved c).EngineLaws taker := by
  obtain ⟨heq, -⟩ | ⟨e, -, -, -, heq⟩ := s.removeReserved_cases c
  · rwa [heq]
  · rw [heq]
    exact h.removeEntry e

theorem State.EngineLaws.acceptReserved (h : s.EngineLaws taker) (c : CurrentCycle) :
    (s.acceptReserved c).EngineLaws taker := h.of_fields (by simp) (by simp) (by simp)

theorem State.EngineLaws.endCycle (h : s.EngineLaws taker) (c : CurrentCycle) (a : AstLines) :
    (s.endCycle c a).EngineLaws taker :=
  (h.of_fields (t := { s.releaseLines { s.lines with ast := a } with current := none }) rfl rfl rfl).drainCheck c.window

/-- A forced drain ends the waits of the windows it takes, and makes idle windows DRAINING (R90, Table 9-2). -/
theorem State.EngineLaws.forceDrainOne (h : s.EngineLaws taker) (k : SlotId) (w : WindowId) :
    (State.forceDrainOne k s w).EngineLaws taker := by
  have drained (hs : (s.window w).Undrained) :
      ((s.setWindow w (s.window w).forceDrained).drainCheck w).EngineLaws taker :=
    (h.setWindow_idle (h.idle hs).waiting (Window.idle_forceDrained _)).drainCheck w
  unfold State.forceDrainOne
  dsimp only
  split
  · exact h
  · next hs =>
    split
    · exact drained (Window.undrained_of_active hs)
    · exact h
  · next hs =>
    split
    · exact drained (Window.undrained_of_suspended hs)
    · exact h
  · split
    · exact h.drainCheck w
    · exact h
  · split
    · exact (h.endWait (Window.idle_forceDrained _) .withdrawn _).drainCheck w
    · split
      · exact h.endWait (Window.idle_released _) .badSlot _
      · exact h

theorem State.EngineLaws.forceDrain (h : s.EngineLaws taker) (k : SlotId) : (s.forceDrain k).EngineLaws taker := by
  unfold State.forceDrain
  generalize List.finRange 64 = l
  induction l generalizing s with
  | nil => exact h
  | cons w l ih => exact ih (h.forceDrainOne k w)

/-! ## Address phases and port writes -/

/-- An accepted GO (R106). -/
theorem State.EngineLaws.accept (h : s.EngineLaws none)
    (hs : (s.context m).state = .empty ∨ (s.context m).state = .complete) (code : Word) :
    ({ s.setContext m ((s.context m).queuedWith code) with queue := s.queue ++ [m] } : State).EngineLaws none := by
  have not_queued : m ∉ s.queue := fun hq => by
    obtain hs | hs := hs <;> simpa [hs] using (h.queued m).1 hq
  refine h.setContext_unwaiting ?_ ⟨?_, fun _ => ⟨rfl, rfl⟩, ?_⟩ nofun ?_ (fun n hn => ?_) ?_ (fun n hn => .rfl)
    (iff_of_false nofun nofun)
  · obtain hs | hs := hs <;> simp [hs]
  · exact iff_of_true rfl (.inl rfl)
  · exact iff_of_false nofun nofun
  · exact List.nodup_append.2 ⟨h.nodup, List.pairwise_singleton _ _, fun n hn k hk hnk =>
      not_queued (List.mem_singleton.1 hk ▸ hnk ▸ hn)⟩
  · simp [hn]
  · exact iff_of_true (by simp) rfl

theorem State.EngineLaws.setOverrun (h : s.EngineLaws taker) (m : MasterId) :
    (s.setContext m (s.context m).withOverrun).EngineLaws taker := h.setContext_alike (Context.alike_withOverrun _)

theorem State.EngineLaws.goAccept (h : s.EngineLaws none) (m : MasterId) (code : Word) :
    (s.goAccept m code).EngineLaws none := by
  unfold State.goAccept
  dsimp only
  split
  · next hs => exact h.accept (.inl hs) code
  · next hs => exact h.accept (.inr hs) code
  · exact h.setOverrun m
  · exact h.setOverrun m
  · exact h.setOverrun m

/-- The undo of a wait ends it (R117). -/
theorem State.EngineLaws.undoWait (h : s.EngineLaws taker) (hs : (s.context m).state = .waiting)
    (hw : (s.context m).waitingWindow = some w) : (s.undoWait m w).EngineLaws taker := by
  have hend := h.endWait (w := w) (Window.idle_released (s.window w)) .abandoned (.one (wordOf w.val))
  rwa [(h.named w m).2 ⟨hs, hw⟩] at hend

theorem State.EngineLaws.abandonWrite (h : s.EngineLaws none) (m : MasterId) : (s.abandonWrite m).EngineLaws none := by
  unfold State.abandonWrite
  dsimp only
  split
  · next hs => exact h.withdraw hs .abandoned .zero
  · next hs hw =>
    split
    · exact h.undoWait hs hw
    · exact h.setOverrun m
  · exact h.setOverrun m

theorem State.EngineLaws.portWrite (h : s.EngineLaws none) (m : MasterId) (data : Word) (port : Port) :
    (s.portWrite m data port).EngineLaws none := by
  cases port with
  | context =>
    change (s.goWrite m data).EngineLaws none
    unfold State.goWrite
    split
    · exact h.abandonWrite m
    · exact h.goAccept m data
  | word n => exact h.setContext_alike ⟨rfl, rfl, rfl, rfl, rfl⟩
  | attention =>
    change (s.attentionWrite m data).EngineLaws none
    unfold State.attentionWrite
    split
    · exact h.of_fields rfl rfl rfl
    · exact h
  | occupancy => exact h

theorem State.EngineLaws.portPhase (h : s.EngineLaws none) (a : BusAddress) (m : MasterId) (kind : CycleKind)
    (width : Width) : (s.portPhase a m kind width).EngineLaws none := by
  have answered : (s.answer .denied).EngineLaws none := h.of_fields rfl rfl rfl
  unfold State.portPhase
  split
  · split
    · exact answered
    · exact h.of_fields rfl rfl rfl
  · split
    · exact answered
    · exact (h.portWrite m _ _).of_fields rfl rfl rfl
  · exact answered

theorem State.EngineLaws.splitPhase (h : s.EngineLaws none) (m : MasterId) (tag : Tag) (w : WindowId) (unit : Nat) :
    (s.splitPhase m tag w unit).EngineLaws none := by
  unfold State.splitPhase
  split
  · exact h.of_fields rfl rfl rfl
  · split
    · exact h.of_fields rfl rfl rfl
    · exact h.of_fields rfl rfl rfl

theorem State.EngineLaws.resolvePhase (h : s.EngineLaws none) (a : BusAddress) (m : MasterId) (kind : CycleKind)
    (width : Width) : (s.resolvePhase a m kind width).EngineLaws none := by
  have answered (status : Status) : (s.answer status).EngineLaws none := h.of_fields rfl rfl rfl
  unfold State.resolvePhase
  split
  · exact answered _
  · split
    · exact answered _
    · split
      · exact answered _
      · exact answered _
      · exact answered _
      · exact answered _
      · exact h.portPhase a m kind width
      · cases kind with
        | read => exact h.of_fields rfl rfl rfl
        | write data => exact h.of_fields rfl rfl rfl
        | splitRead tag => exact h.splitPhase m tag _ _

theorem State.EngineLaws.addressPhase (h : s.EngineLaws none) {a : BusAddress} {m : MasterId} {kind : CycleKind}
    {width : Width} (hx : s.addressPhase a m kind width = .next t) : t.EngineLaws none := by
  obtain ⟨-, rfl⟩ | ⟨-, hx⟩ := State.whileRunning_next hx
  · exact h
  · obtain ⟨-, -, hx⟩ := State.onFreeBus_next hx
    cases hx
    exact h.resolvePhase a m kind width

/-! ## The ends of a cycle, deadlines and replies -/

theorem State.EngineLaws.acknowledge (h : s.EngineLaws taker) (status : Status) :
    (s.acknowledge status).EngineLaws taker := by
  unfold State.acknowledge
  split
  · exact h
  · next c _ =>
    split
    · unfold State.properEnd
      dsimp only
      split
      · exact ((h.strikeClear c.window).acceptReserved c).endCycle c _
      · exact ((h.strikeClear c.window).removeReserved c).endCycle c _
    · exact ((h.strike c.window).removeReserved c).endCycle c _

theorem State.EngineLaws.timerExpiry (h : s.EngineLaws taker) : s.timerExpiry.EngineLaws taker := by
  unfold State.timerExpiry
  split
  · exact h
  · next c _ => exact ((h.strike c.window).removeReserved c).endCycle c _

theorem State.EngineLaws.assertRequest (h : s.EngineLaws taker) : s.assertRequest.EngineLaws taker :=
  h.of_fields (by simp) (by simp) (by simp)

theorem State.EngineLaws.deadlineExpiry (h : s.EngineLaws taker) (k : MasterId × Tag) :
    (s.deadlineExpiry k).EngineLaws taker := by
  unfold State.deadlineExpiry
  split
  · exact h
  · next e _ =>
    split
    · have queued : (s.queueSilent e).EngineLaws taker := h.of_fields rfl rfl rfl
      rw [State.expireEntry_eq]
      exact (queued.strike e.window).assertRequest
    · exact h
    · exact h

theorem State.EngineLaws.matchReply (h : s.EngineLaws taker) {k : MasterId × Tag} {source : SlotId} {status : Status}
    (hx : s.matchReply k source status = .next t) : t.EngineLaws taker := by
  have voided : (s.voidReply source status).EngineLaws taker := h.of_fields rfl rfl rfl
  have shown (void : Bool) : (s.releaseLines (Lines.slaveReply status void)).EngineLaws taker :=
    h.of_fields rfl rfl rfl
  unfold State.matchReply at hx
  split at hx
  · cases hx
    exact voided
  · next e _ =>
    split at hx
    · cases hx
    · split at hx
      · cases hx
        exact ((shown false).strikeClear e.window).removeEntry e
      · cases hx
        exact voided
    · split at hx
      · cases hx
        exact ((shown false).removeEntry e).of_fields (by simp [State.passExpired]) (by simp [State.passExpired])
          (by simp [State.passExpired])
      · cases hx
        exact voided
    · cases hx
      exact voided

theorem State.EngineLaws.grantTenure (h : s.EngineLaws taker) : s.grantTenure.EngineLaws taker := by
  unfold State.grantTenure
  split <;> exact h.of_fields rfl rfl rfl

theorem State.EngineLaws.endFaultReply (h : s.EngineLaws taker) (k : MasterId × Tag) :
    (s.endFaultReply k).EngineLaws taker := by
  unfold State.endFaultReply
  split
  · next e _ => exact (h.removeEntry e).of_fields rfl rfl rfl
  · exact h.of_fields rfl rfl rfl

/-! ## INIT and the presence lines -/

theorem State.engineLaws_initialise (s : State) : s.initialise.EngineLaws none := by
  have window (w : WindowId) : (s.initialise.window w).Idle := by
    have hw : s.initialise.window w = initWindow w := by simp [State.initialise, State.window]
    rw [hw]
    unfold initWindow
    split
    · exact ⟨nofun, rfl, rfl⟩
    · split
      · exact ⟨nofun, rfl, rfl⟩
      · exact Window.idle_cleared
  have context (m : MasterId) : s.initialise.context m = Context.reset := by
    simp [State.initialise, State.context]
  refine ⟨fun w => (window w).sound, fun m => ?_, List.nodup_nil, fun m => ?_, fun m => ?_, fun w m => ?_,
    fun w m hw => ?_⟩
  · rw [context]; exact Context.sound_reset
  · rw [context]; exact iff_of_false nofun nofun
  · rw [context]; exact iff_of_false nofun nofun
  · rw [context, (window w).waiting]; exact iff_of_false nofun fun hx => nomatch hx.1
  · rw [(window w).waiting] at hw; cases hw

theorem State.EngineLaws.release (h : s.EngineLaws taker) (prs mode : BitVec 16) :
    (s.release prs mode).EngineLaws taker := by
  unfold State.release State.initRegistry
  exact h.of_fields rfl rfl rfl

theorem State.EngineLaws.withdrawCycle (h : s.EngineLaws taker) (k : SlotId) :
    (s.withdrawCycle k).EngineLaws taker := by
  obtain ⟨heq, -⟩ | ⟨c, -, -, heq⟩ := s.withdrawCycle_cases k
  · rwa [heq]
  · rw [heq]
    exact (h.removeReserved c).endCycle c _

theorem State.EngineLaws.withdrawEntries (h : s.EngineLaws taker) (k : SlotId) :
    (s.withdrawEntries k).EngineLaws taker := h.of_fields (by simp) (by simp) (by simp)

theorem State.EngineLaws.presenceLoss (h : s.EngineLaws taker) (k : SlotId) : (s.presenceLoss k).EngineLaws taker := by
  have lost : (s.setSlot k (s.slot k).lost).EngineLaws taker := h.of_fields rfl rfl rfl
  exact (((lost.forceDrain k).withdrawCycle k).withdrawEntries k).raise _ _

/-! ## The engine's takes -/

/-- A take keeps the laws when its effect ends what the take has begun: the issuer's context alone ACTIVE, with the
command that the row names captured (R110). -/
theorem State.EngineLaws.take (h : s.EngineLaws none) {named : Word → Bool}
    {effect : MasterId → Captured → State → State}
    (he : ∀ m cmd a, a.EngineLaws (some m) → (a.context m).captured = some cmd → named cmd.code = true →
      (effect m cmd a).EngineLaws none)
    (hx : s.take named effect = .next t) : t.EngineLaws none := by
  obtain ⟨-, rfl⟩ | ⟨m, rest, cmd, htake, hnamed, rfl⟩ := State.take_next hx
  · exact h
  · exact he m cmd _ (h.taking htake.head) (by rw [State.taking_context_self]; exact htake.captured) hnamed

/-- The take of a command whose effect needs nothing but the laws. -/
theorem State.EngineLaws.take_plain (h : s.EngineLaws none) {named : Word → Bool}
    {effect : MasterId → Captured → State → State}
    (he : ∀ m cmd a, a.EngineLaws (some m) → (effect m cmd a).EngineLaws none)
    (hx : s.take named effect = .next t) : t.EngineLaws none :=
  h.take (fun m cmd a ha _ _ => he m cmd a ha) hx

/-- The command whose take has begun is the issuer's captured one. -/
theorem Context.command_of_captured {c : Context} {cmd : Captured} {command : Command} (hc : c.captured = some cmd)
    (hn : isCommand command cmd.code = true) : c.command = some command := by
  simpa [Context.command, hc, isCommand] using hn

theorem State.EngineLaws.windowCommand (h : s.EngineLaws (some m)) (id : Word) {own : WindowId → State}
    (ho : ∀ w, (own w).EngineLaws none) : (s.windowCommand m id own).EngineLaws none := by
  unfold State.windowCommand
  split
  · exact h.refuse _
  · exact ho _

theorem State.EngineLaws.registryCommand (h : s.EngineLaws (some m)) {own : State} (ho : own.EngineLaws none) :
    (s.registryCommand m own).EngineLaws none := by
  unfold State.registryCommand
  split
  · exact ho
  · exact h.refuse _

theorem Window.undrained_of_free {win : Window} (h : win.state = .free) : win.Undrained := by
  simp [Window.Undrained, h]

/-- The entry that a CLAIM is given is FREE (R18). -/
theorem State.lowestFree_free (h : s.lowestFree = some w) : (s.window w).state = .free := by
  have hfound := List.find?_some h
  rw [Bool.and_eq_true, beq_iff_eq] at hfound
  exact hfound.2

theorem State.EngineLaws.claimEffect (h : s.EngineLaws (some m)) (cmd : Captured) :
    (claimEffect m cmd s).EngineLaws none := by
  unfold Machine.claimEffect
  split
  · exact h.refuse _
  · split
    · exact h.refuse _
    · split
      · exact h.refuse _
      · split
        · exact h.refuse _
        · split
          · exact h.refuse _
          · next o _ _ _ _ _ w hw =>
            have hfree : (s.window w).Undrained := Window.undrained_of_free (State.lowestFree_free hw)
            exact (h.setWindow_idle (r := claimedWindow m o) (h.idle hfree).waiting ⟨nofun, rfl, rfl⟩).done _

theorem State.EngineLaws.resizeEffect (h : s.EngineLaws (some m)) {cmd : Captured}
    (hc : (s.context m).command = some .resize) : (resizeEffect m cmd s).EngineLaws none := by
  refine h.windowCommand _ fun w => ?_
  dsimp only
  split
  · exact h.refuse _
  · exact h.refuse _
  · exact h.refuse _
  · exact h.refuse _
  · next hs =>
    split
    · exact h.refuse _
    · split
      · exact h.refuse _
      · unfold State.resizeWindow
        dsimp only
        split
        · exact h.awaitWindow (h.idle (Window.undrained_of_active hs)).waiting (.inl rfl) (iff_of_true rfl rfl)
            ⟨fun _ => .inr hc, nofun⟩
        · exact h.setWindow_done (Window.alike_withLength _ _) _

theorem State.EngineLaws.moveEffect (h : s.EngineLaws (some m)) {cmd : Captured}
    (hc : (s.context m).command = some .move) : (moveEffect m cmd s).EngineLaws none := by
  refine h.windowCommand _ fun w => ?_
  dsimp only
  split
  · exact h.refuse _
  · exact h.refuse _
  · exact h.refuse _
  · exact h.refuse _
  · next hs =>
    split
    · exact h.refuse _
    · split
      · exact h.refuse _
      · split
        · exact h.refuse _
        · split
          · exact h.refuse _
          · unfold State.moveWindow
            dsimp only
            split
            · exact h.setWindow_done (Window.alike_reshaped _ _) _
            · exact h.awaitWindow (h.idle (Window.undrained_of_active hs)).waiting (.inl rfl) (iff_of_true rfl rfl)
                ⟨fun _ => .inl hc, nofun⟩

theorem State.EngineLaws.restackEffect (h : s.EngineLaws (some m)) (cmd : Captured) :
    (restackEffect m cmd s).EngineLaws none := by
  have own (w : WindowId) : (s.restackWindow m w cmd.words.w1).EngineLaws none := by
    unfold State.restackWindow
    dsimp only
    split
    · exact h.refuse _
    · split
      · exact h.refuse _
      · exact h.setWindow_done (Window.alike_withLayer _ _) _
  refine h.windowCommand _ fun w => ?_
  split
  · exact h.refuse _
  · exact h.refuse _
  · exact h.refuse _
  · exact own w
  · exact own w

theorem State.EngineLaws.grantEffect (h : s.EngineLaws (some m)) (cmd : Captured) :
    (grantEffect m cmd s).EngineLaws none := by
  have own (w : WindowId) : (s.grantWindow m w cmd.words.w1).EngineLaws none :=
    h.setWindow_done (Window.alike_withSets _ _ _) _
  refine h.windowCommand _ fun w => ?_
  split
  · exact h.refuse _
  · exact h.refuse _
  · exact own w
  · exact own w
  · exact own w

theorem State.EngineLaws.handoverEffect (h : s.EngineLaws (some m)) (cmd : Captured) :
    (handoverEffect m cmd s).EngineLaws none := by
  have own (w : WindowId) : (s.handoverWindow m w cmd.words.w1).EngineLaws none := by
    unfold State.handoverWindow
    split
    · exact h.refuse _
    · exact h.setWindow_done (Window.alike_withSponsor _ _) _
  refine h.windowCommand _ fun w => ?_
  split
  · exact h.refuse _
  · exact h.refuse _
  · exact own w
  · exact own w
  · exact own w

/-- A RETIRE of a window that nothing waits on drains it at once or leaves the command waiting (R143). -/
theorem State.EngineLaws.retireWindow (h : s.EngineLaws (some m)) (hc : (s.context m).command = some .retire)
    (hs : (s.window w).Undrained) : (s.retireWindow m w).EngineLaws none := by
  obtain ⟨-, change, waiting⟩ := h.idle hs
  unfold State.retireWindow
  dsimp only
  split
  · exact ((h.setWindow_idle (r := (s.window w).draining) waiting ⟨nofun, change, waiting⟩).drainCheck w).done _
  · exact h.awaitWindow waiting (.inr rfl) (iff_of_false (by simp [Window.draining, change]) nofun)
      ⟨nofun, fun _ => hc⟩

theorem State.EngineLaws.retireEffect (h : s.EngineLaws (some m)) {cmd : Captured}
    (hc : (s.context m).command = some .retire) : (retireEffect m cmd s).EngineLaws none := by
  refine h.windowCommand _ fun w => ?_
  split
  · exact h.refuse _
  · exact h.refuse _
  · exact h.refuse _
  · next hs => exact h.retireWindow hc (Window.undrained_of_active hs)
  · next hs => exact h.retireWindow hc (Window.undrained_of_suspended hs)

theorem State.EngineLaws.reinstateEffect (h : s.EngineLaws (some m)) (cmd : Captured) :
    (reinstateEffect m cmd s).EngineLaws none := by
  refine h.windowCommand _ fun w => ?_
  split
  · next hs =>
    obtain ⟨-, change, waiting⟩ := h.idle (Window.undrained_of_suspended hs)
    exact (h.setWindow_idle (r := (s.window w).reinstated) waiting ⟨nofun, change, waiting⟩).done _
  · exact h.refuse _
  · exact h.refuse _
  · exact h.refuse _
  · exact h.refuse _

theorem State.EngineLaws.setSlotEffect (h : s.EngineLaws (some m)) (cmd : Captured) :
    (setSlotEffect m cmd s).EngineLaws none := by
  refine h.registryCommand ?_
  split
  · exact h.refuse _
  · next k _ =>
    split
    · have limited (r : SlotRecord) : (s.setSlot k r).EngineLaws (some m) := h.of_fields rfl rfl rfl
      exact (limited _).done _
    · exact h.refuse _

theorem State.EngineLaws.slotOnlineEffect (h : s.EngineLaws (some m)) (cmd : Captured) :
    (slotOnlineEffect m cmd s).EngineLaws none := by
  refine h.registryCommand ?_
  split
  · exact h.refuse _
  · next k _ =>
    split
    · exact h.refuse _
    · exact h.done _
    · have online (r : SlotRecord) : (s.setSlot k r).EngineLaws (some m) := h.of_fields rfl rfl rfl
      exact (online _).done _

theorem State.EngineLaws.slotOfflineEffect (h : s.EngineLaws (some m)) (cmd : Captured) :
    (slotOfflineEffect m cmd s).EngineLaws none := by
  refine h.registryCommand ?_
  split
  · exact h.refuse _
  · next k _ =>
    split
    · exact h.refuse _
    · split
      · exact h.refuse _
      · exact h.done _
      · have offline (r : SlotRecord) : (s.setSlot k r).EngineLaws (some m) := h.of_fields rfl rfl rfl
        exact ((offline _).forceDrain k).done _

/-- Disabling a master withdraws its QUEUED command; the issuer's own is ACTIVE and goes on (R99). -/
theorem State.EngineLaws.writeMaster (h : s.EngineLaws taker) (k : MasterId) (r : MasterRecord) :
    (s.writeMaster k r).EngineLaws taker := by
  have written : (s.setMaster k r).EngineLaws taker := h.of_fields rfl rfl rfl
  unfold State.writeMaster
  split
  · exact written
  · unfold State.withdrawQueued
    split
    · next hs => exact written.withdraw hs .disabled .zero
    · exact written

theorem State.EngineLaws.setMasterEffect (h : s.EngineLaws (some m)) (cmd : Captured) :
    (setMasterEffect m cmd s).EngineLaws none := by
  refine h.registryCommand ?_
  split
  · exact h.refuse _
  · dsimp only
    split
    · exact (h.writeMaster _ _).done _
    · exact h.refuse _

/-- A TUNE writes strikes alone in the window records (R100). -/
theorem State.EngineLaws.tuneStrikes (h : s.EngineLaws taker) (limit : Nat) :
    (s.tuneStrikes limit).EngineLaws taker := by
  unfold State.tuneStrikes
  split
  · exact h
  · refine h.of_alike (fun w => ?_) (fun n => ?_) rfl
    · simp only [State.window, Fin.getElem_fin, Vector.getElem_ofFn]
      exact Window.alike_unstruck _
    · simp only [State.context]
      exact .refl _

theorem State.EngineLaws.tuneEffect (h : s.EngineLaws (some m)) (cmd : Captured) :
    (tuneEffect m cmd s).EngineLaws none := by
  have selected {a : State} (ha : a.EngineLaws (some m)) (sel : SelectionOperand) :
      (a.tuneSelection sel).EngineLaws (some m) := by
    cases sel with
    | leave => exact ha
    | set selection => exact ha.of_fields rfl rfl rfl
  refine h.registryCommand ?_
  split
  · exact h.refuse _
  · dsimp only
    split
    · exact (selected (h.tuneStrikes _) _).done _
    · exact h.refuse _

theorem State.EngineLaws.inspectEffect (h : s.EngineLaws (some m)) (cmd : Captured) :
    (inspectEffect m cmd s).EngineLaws none := by
  unfold Machine.inspectEffect
  split
  · exact h.refuse _
  · exact h.done _

theorem State.EngineLaws.resolveEffect (h : s.EngineLaws (some m)) (cmd : Captured) :
    (resolveEffect m cmd s).EngineLaws none := by
  unfold Machine.resolveEffect
  split
  · exact h.refuse _
  · exact h.done _

/-! ## Every event, every step -/

theorem State.EngineLaws.exec (h : s.EngineLaws none) (i : Instr) (hx : exec i s = .next t) : t.EngineLaws none := by
  have running {r : State} (hr : r.EngineLaws none) (hx : s.whileRunning (.next r) = .next t) :
      t.EngineLaws none := by
    obtain ⟨-, rfl⟩ | ⟨-, hx⟩ := State.whileRunning_next hx
    · exact h
    · cases hx
      exact hr
  cases i with
  | init => cases hx; exact s.engineLaws_initialise
  | initRelease prs mode =>
    obtain ⟨-, hx⟩ := Result.ite_next hx
    cases hx
    exact h.release prs mode
  | addressPhase a m kind width => exact h.addressPhase hx
  | go m code width => exact h.addressPhase hx
  | stagingWrite m n data width => exact h.addressPhase hx
  | attentionClear m data width => exact h.addressPhase hx
  | occupancyWrite m data width => exact h.addressPhase hx
  | abandon m width => exact h.addressPhase hx
  | badCommand =>
    exact h.take_plain (named := fun code => (commandOf code).isNone) (effect := badCommandEffect)
      (fun m cmd a ha => ha.complete _ _) hx
  | claim => exact h.take_plain (fun m cmd a ha => ha.claimEffect cmd) hx
  | resize => exact h.take (fun m cmd a ha hc hn => ha.resizeEffect (Context.command_of_captured hc hn)) hx
  | move => exact h.take (fun m cmd a ha hc hn => ha.moveEffect (Context.command_of_captured hc hn)) hx
  | restack => exact h.take_plain (fun m cmd a ha => ha.restackEffect cmd) hx
  | grant => exact h.take_plain (fun m cmd a ha => ha.grantEffect cmd) hx
  | handover => exact h.take_plain (fun m cmd a ha => ha.handoverEffect cmd) hx
  | retire => exact h.take (fun m cmd a ha hc hn => ha.retireEffect (Context.command_of_captured hc hn)) hx
  | reinstate => exact h.take_plain (fun m cmd a ha => ha.reinstateEffect cmd) hx
  | setSlot => exact h.take_plain (fun m cmd a ha => ha.setSlotEffect cmd) hx
  | slotOnline => exact h.take_plain (fun m cmd a ha => ha.slotOnlineEffect cmd) hx
  | slotOffline => exact h.take_plain (fun m cmd a ha => ha.slotOfflineEffect cmd) hx
  | setMaster => exact h.take_plain (fun m cmd a ha => ha.setMasterEffect cmd) hx
  | tune => exact h.take_plain (fun m cmd a ha => ha.tuneEffect cmd) hx
  | inspect => exact h.take_plain (fun m cmd a ha => ha.inspectEffect cmd) hx
  | resolve => exact h.take_plain (fun m cmd a ha => ha.resolveEffect cmd) hx
  | properAcknowledge status => exact running (h.acknowledge status) hx
  | improperAcknowledge status => exact running (h.acknowledge status) hx
  | strayAcknowledge status => cases hx; exact h
  | acknowledgeTimerExpiry => exact running h.timerExpiry hx
  | deadlineExpiry m tag => exact running (h.deadlineExpiry (m, tag)) hx
  | replyCycle m tag source data status =>
    obtain ⟨-, rfl⟩ | ⟨-, hx⟩ := State.whileRunning_next hx
    · exact h
    · obtain ⟨-, -, hx⟩ := State.onFreeBus_next hx
      exact h.matchReply hx
  | mastershipGrant =>
    obtain ⟨-, rfl⟩ | ⟨-, hx⟩ := State.whileRunning_next hx
    · exact h
    · split at hx
      · cases hx
      · cases hx
        exact h.grantTenure
  | faultReplyEnd =>
    obtain ⟨-, rfl⟩ | ⟨-, hx⟩ := State.whileRunning_next hx
    · exact h
    · split at hx
      · next k rest _ _ =>
        cases hx
        exact h.endFaultReply k
      · cases hx
  | presenceLoss k =>
    obtain ⟨-, hx⟩ := Result.ite_next hx
    have moved : (s.movePrs k false).EngineLaws none := h.of_fields rfl rfl rfl
    obtain ⟨-, rfl⟩ | ⟨-, hx⟩ := State.whileRunning_next hx
    · exact moved
    · rw [← Host.Outcome.next.inj hx]
      exact moved.presenceLoss k
  | presenceReturn k mode =>
    obtain ⟨-, hx⟩ := Result.ite_next hx
    obtain ⟨-, rfl⟩ | ⟨-, hx⟩ := State.whileRunning_next hx
    · exact h.of_fields rfl rfl rfl
    · rw [← Host.Outcome.next.inj hx]
      exact h.of_fields rfl rfl rfl

theorem State.EngineLaws.step (h : s.EngineLaws none) (hx : step s = .next t) : t.EngineLaws none := by
  obtain ⟨-, rfl⟩ | ⟨i, rest, -, hx⟩ := step_next hx
  · exact h.of_fields rfl rfl rfl
  · have h' : ({ s with pending := rest } : State).EngineLaws none := h.of_fields rfl rfl rfl
    exact h'.exec i hx

/-- Settles O56: the two laws are `EngineLaws` with no command being taken, and every step keeps it. -/
theorem commandLawsKept : Obligations.CommandLawsKept := by
  intro s t hqueue hwait hx
  exact State.engineLaws_none_iff.1 (State.EngineLaws.step (State.engineLaws_none_iff.2 ⟨hqueue, hwait⟩) hx)

end Sys2Proof.Machine
end

section
/-!
PROOFS. Writes of the GO port and of the staging ports (O22, O23, O24), ABANDON (O26, O27, O28), and the
checks that come before a command's own (O38, O39, O48).
-/
namespace Sys2Proof.Machine

variable {s : State} {m : MasterId}

/-! ## The GO port (R106, R107) -/

theorem State.PortReady.go (h : s.PortReady m) (code : Word) (width : Width) :
    exec (.go m code width) s = .next ((s.goWrite m (writtenWord code width)).serve none) :=
  h.write (by decide) (by decide) code width

theorem State.goWrite_go {code : Word} (hcode : code ≠ 0x001F) : s.goWrite m code = s.goAccept m code := if_neg hcode

theorem State.goWrite_abandon (s : State) (m : MasterId) : s.goWrite m 0x001F = s.abandonWrite m := if_pos rfl

theorem State.goAccept_accepted (hs : (s.context m).state = .empty ∨ (s.context m).state = .complete) (code : Word) :
    s.goAccept m code = { s.setContext m ((s.context m).queuedWith code) with queue := s.queue ++ [m] } := by
  obtain hs | hs := hs <;> simp only [State.goAccept, hs]

theorem State.goAccept_busy (hs : (s.context m).state = .queued ∨ (s.context m).state = .waiting) (code : Word) :
    s.goAccept m code = s.setContext m (s.context m).withOverrun := by
  obtain hs | hs := hs <;> simp only [State.goAccept, hs]

/-- Settles O22: the write reaches the Command Engine, which finds the context free. -/
theorem goAccepted : Obligations.GoAccepted := by
  intro s m code h hs hcode
  refine ⟨_, h.go code .word, ?_⟩
  rw [show writtenWord code .word = code from rfl, State.goWrite_go hcode, State.goAccept_accepted hs]
  exact State.answersTo_serve _ none

/-- A low byte handed over is the word of that byte (R165). -/
theorem writtenWord_byte (code : Word) :
    writtenWord code .byte = writtenWord (BitVec.ofNat 16 (code.toNat % 256)) .word := rfl

/-- Settles O23: both widths hand over one word, and a busy context keeps all but its overrun flag. -/
theorem goByteAndOverrun : Obligations.GoByteAndOverrun := by
  intro s m code h
  refine ⟨State.addressPhase_write_congr (writtenWord_byte code) _ m, fun hs hcode => ⟨_, h.go code .word, ?_⟩⟩
  rw [show writtenWord code .word = code from rfl, State.goWrite_go hcode, State.goAccept_busy hs]
  exact State.answersTo_serve _ none

/-! ## The staging ports (R104) -/

/-- A staging port is an even port from 0xFFF2 on (Table 3-2). -/
theorem stagingPort_even (n : Fin 5) : 0xFFF0 ≤ (stagingPort n).toNat ∧ (stagingPort n).getLsbD 0 = false := by
  revert n
  decide

theorem portOf_stagingPort (n : Fin 5) : portOf (stagingPort n) = .word n := by
  rw [stagingPort_eq, portOf_word]

theorem Words.put_eq (ws : Words) (n : Fin 5) (v : Word) :
    ws.put n v = [Words.mk v ws.w1 ws.w2 ws.w3 ws.w4, ⟨ws.w0, v, ws.w2, ws.w3, ws.w4⟩,
      ⟨ws.w0, ws.w1, v, ws.w3, ws.w4⟩, ⟨ws.w0, ws.w1, ws.w2, v, ws.w4⟩, ⟨ws.w0, ws.w1, ws.w2, ws.w3, v⟩][n] := by
  match n with
  | 0 | 1 | 2 | 3 | 4 => rfl

/-- The word that a WRITE hands over, by what R165 says of each width. -/
theorem writtenWord_eq {data v : Word} {width : Width} (hword : width = .word → v = data)
    (hbyte : width = .byte → v.toNat = data.toNat % 256) : writtenWord data width = v := by
  cases width with
  | word => exact (hword rfl).symm
  | byte =>
    apply BitVec.eq_of_toNat_eq
    rw [hbyte rfl, writtenWord, BitVec.toNat_ofNat]
    omega

theorem State.PortReady.stagingWrite (h : s.PortReady m) (n : Fin 5) (data : Word) (width : Width) :
    exec (.stagingWrite m n data width) s = .next ((s.stage m n (writtenWord data width)).serve none) := by
  obtain ⟨hp, he⟩ := stagingPort_even n
  refine (h.write hp he data width).trans ?_
  rw [portOf_stagingPort]
  rfl

/-- Settles O24: the write reaches its staging word. -/
theorem stagingWrite : Obligations.StagingWrite := by
  intro s m data width c h hc v hword hbyte n
  refine ⟨_, h.stagingWrite n data width, ?_⟩
  rw [writtenWord_eq hword hbyte, ← Words.put_eq, ← hc]
  exact State.answersTo_serve _ none

/-! ## ABANDON (R116 to R118) -/

theorem State.PortReady.abandon (h : s.PortReady m) (width : Width) :
    exec (.abandon m width) s = .next ((s.abandonWrite m).serve none) := by
  have hgo : exec (.abandon m width) s = .next ((s.goWrite m (writtenWord abandonCode width)).serve none) :=
    h.go abandonCode width
  rwa [writtenWord_abandonCode, State.goWrite_abandon] at hgo

/-- ABANDON undoes the wait of a MOVE or a RESIZE (R117). -/
theorem Context.undoable_iff (c : Context) :
    c.undoable = true ↔ c.command = some .move ∨ c.command = some .resize := by
  unfold Context.undoable Context.command
  split <;> simp_all

theorem State.abandonWrite_queued (hs : (s.context m).state = .queued) :
    s.abandonWrite m = { s.complete m .abandoned .zero with queue := s.queue.filter (· != m) } := by
  simp only [State.abandonWrite, hs]

theorem State.abandonWrite_undo {w : WindowId} (hs : (s.context m).state = .waiting)
    (hw : (s.context m).waitingWindow = some w)
    (hc : (s.context m).command = some .move ∨ (s.context m).command = some .resize) :
    s.abandonWrite m = s.undoWait m w := by
  simp only [State.abandonWrite, hs, hw, (Context.undoable_iff _).2 hc, if_true]

theorem State.abandonWrite_noEffect (hs : (s.context m).state ≠ .queued)
    (hc : (s.context m).state = .waiting → (s.context m).command = some .retire) :
    s.abandonWrite m = s.setContext m (s.context m).withOverrun := by
  unfold State.abandonWrite
  dsimp only
  split
  · next hq => exact absurd hq hs
  · next hwaiting _ =>
    have hkept : ¬ (s.context m).undoable = true := by simp [Context.undoable_iff, hc hwaiting]
    exact if_neg hkept
  · rfl

/-- A captured code that is a command's names it (R111). -/
theorem Context.command_of_code {c : Context} {cmd : Captured} {command : Command} (hc : c.captured = some cmd)
    (hcode : cmd.code = command.code) : c.command = some command :=
  Context.command_of_captured hc (isCommand_of (hcode ▸ commandOf_code command))

/-- A list without repetition loses one place with one of its members. -/
theorem filter_bne_append_cons {α : Type} [BEq α] [LawfulBEq α] {front back : List α} {a : α}
    (h : (front ++ a :: back).Nodup) : (front ++ a :: back).filter (· != a) = front ++ back := by
  obtain ⟨-, -, hfront⟩ := List.nodup_append.1 h
  have hnot : a ∉ front := fun ha => hfront a ha a (List.mem_cons_self ..) rfl
  rw [← h.erase_eq_filter, List.erase_append_right _ hnot, List.erase_cons_head]

/-- Settles O26: the queue holds the master once, so the filter takes it from its one place. -/
theorem abandonQueued : Obligations.AbandonQueued := by
  intro s m width front back h hlaw hs hq
  have hfilter : s.queue.filter (· != m) = front ++ back := by
    have hnodup := hlaw.nodup
    rw [hq] at hnodup ⊢
    exact filter_bne_append_cons hnodup
  refine ⟨_, h.abandon width, ?_⟩
  rw [State.abandonWrite_queued hs, hfilter]
  refine ⟨State.answersTo_serve _ none, ?_⟩
  rw [State.serve_queue, hq]
  simp only [List.length_append, List.length_cons]
  omega

/-- Settles O27: the captured command is a RESIZE or a MOVE, whose wait ABANDON undoes. -/
theorem abandonWaitingChange : Obligations.AbandonWaitingChange := by
  intro s m width w cmd h hs hw hc hcode
  have hcommand : (s.context m).command = some .move ∨ (s.context m).command = some .resize :=
    hcode.elim (fun hr => .inr (Context.command_of_code hc hr)) fun hm => .inl (Context.command_of_code hc hm)
  refine ⟨_, h.abandon width, ?_⟩
  rw [State.abandonWrite_undo hs hw hcommand]
  exact State.answersTo_serve _ none

/-- Settles O28: neither QUEUED nor waiting on a change. -/
theorem abandonWithoutEffect : Obligations.AbandonWithoutEffect := by
  intro s m width h hs
  refine ⟨_, h.abandon width, ?_⟩
  rw [State.abandonWrite_noEffect]
  · exact State.answersTo_serve _ none
  · obtain hs | hs | ⟨hs, -⟩ := hs <;> simp [hs]
  · intro hwaiting
    obtain hs | hs | ⟨-, cmd, hc, hcode⟩ := hs
    · cases hs.symm.trans hwaiting
    · cases hs.symm.trans hwaiting
    · exact Context.command_of_code hc hcode

/-! ## A code that names no command (R111) -/

theorem Command.code_mem_codedRows (c : Command) : ∃ p ∈ codedRows, p.2 = c.code := by
  cases c <;> decide

theorem commandOf_none {code : Word} (h : ∀ p ∈ codedRows, code ≠ p.2) : commandOf code = none := by
  refine Option.eq_none_iff_forall_ne_some.2 fun c hc => ?_
  obtain ⟨p, hp, heq⟩ := c.code_mem_codedRows
  exact h p hp ((commandOf_eq_some_iff.1 hc).trans heq.symm)

/-- Settles O38: the code is that of no coded row, so it names no command. -/
theorem badCommand : Obligations.BadCommand := by
  intro s m rest cmd h hclaim hrows hinspect hresolve
  have huncoded : ∀ p ∈ codedRows, cmd.code ≠ p.2 := by
    intro p hp
    have hsplit : codedRows =
        (.claim, 0x01) :: (windowRows ++ registryRows) ++ [(.inspect, 0x18), (.resolve, 0x19)] := rfl
    simp only [hsplit, List.mem_append, List.mem_cons, List.not_mem_nil, or_false] at hp
    obtain (rfl | hp) | rfl | rfl := hp
    · exact hclaim
    · exact hrows p (List.mem_append.2 hp)
    · exact hinspect
    · exact hresolve
  rw [exec_badCommand, h.take (by simp [commandOf_none huncoded])]
  exact congrArg _ (s.taking_complete m rest .badCommand _)

/-! ## The common checks of the window commands (R111, R112) -/

theorem State.windowCommand_refused {id : Word} {code : ResultCode} (h : s.windowNamed m id = .error code)
    (own : WindowId → State) : s.windowCommand m id own = s.refuse m code := by
  simp only [State.windowCommand, h]

/-- Every window row takes its command, and refuses it with the result of the common checks when they fail. -/
theorem exec_windowRow {p : Instr × Word} (hp : p ∈ windowRows) :
    ∃ c effect, p.2 = c.code ∧ (∀ s, exec p.1 s = s.take (isCommand c) effect)
      ∧ ∀ m cmd s code, s.windowNamed m cmd.words.w0 = .error code → effect m cmd s = s.refuse m code := by
  simp only [windowRows, List.mem_cons, List.not_mem_nil, or_false] at hp
  obtain rfl | rfl | rfl | rfl | rfl | rfl | rfl := hp
  · exact ⟨.resize, resizeEffect, rfl, fun _ => rfl, fun _ _ _ _ hn => State.windowCommand_refused hn _⟩
  · exact ⟨.move, moveEffect, rfl, fun _ => rfl, fun _ _ _ _ hn => State.windowCommand_refused hn _⟩
  · exact ⟨.restack, restackEffect, rfl, fun _ => rfl, fun _ _ _ _ hn => State.windowCommand_refused hn _⟩
  · exact ⟨.grant, grantEffect, rfl, fun _ => rfl, fun _ _ _ _ hn => State.windowCommand_refused hn _⟩
  · exact ⟨.handover, handoverEffect, rfl, fun _ => rfl, fun _ _ _ _ hn => State.windowCommand_refused hn _⟩
  · exact ⟨.retire, retireEffect, rfl, fun _ => rfl, fun _ _ _ _ hn => State.windowCommand_refused hn _⟩
  · exact ⟨.reinstate, reinstateEffect, rfl, fun _ => rfl, fun _ _ _ _ hn => State.windowCommand_refused hn _⟩

section Checks

variable {id : Word} {w : WindowId}

theorem indexOf_eq_some {n value : Nat} {i : Fin n} (h : value = i.val) : indexOf n value = some i := by
  simp [indexOf, h]

theorem State.windowNamed_above (h : 64 ≤ id.toNat) : s.windowNamed m id = .error .noWindow := by
  simp [State.windowNamed, indexOf, Nat.not_lt.2 h]

theorem State.windowNamed_free (hid : id.toNat = w.val) (hf : (s.window w).state = .free) :
    s.windowNamed m id = .error .noWindow := by
  simp [State.windowNamed, indexOf_eq_some hid, hf]

theorem State.windowNamed_port (hid : id.toNat = w.val) (hf : (s.window w).state ≠ .free) (hw : w = 0) :
    s.windowNamed m id = .error .protectedEntry := by
  subst hw
  simp [State.windowNamed, indexOf_eq_some hid, hf]

theorem State.windowNamed_noAuthority (hid : id.toNat = w.val) (hf : (s.window w).state ≠ .free) (hw : w ≠ 0)
    (hsponsor : (s.window w).sponsor ≠ m) (hsup : (s.master m).supervisor = false) :
    s.windowNamed m id = .error .noAuthority := by
  simp [State.windowNamed, indexOf_eq_some hid, hf, hw, State.commands, hsponsor, hsup]

end Checks

/-- A window row whose common checks fail ends with their result and writes no table (R113). -/
theorem State.Takes.windowRow_refused {rest : List MasterId} {cmd : Captured} (h : s.Takes m rest cmd)
    {p : Instr × Word} (hp : p ∈ windowRows) (hcode : cmd.code = p.2) {code : ResultCode}
    (hn : s.windowNamed m cmd.words.w0 = .error code) :
    exec p.1 s = .next (s.takeEnds m rest code ⟨0, 0, 0, 0, 0⟩) := by
  obtain ⟨c, effect, hrow, hexec, hrefused⟩ := exec_windowRow hp
  have hnamed : isCommand c cmd.code = true := isCommand_of (by rw [hcode, hrow, commandOf_code])
  have htaking : (s.taking m rest).windowNamed m cmd.words.w0 = .error code := hn
  rw [hexec, h.take hnamed, hrefused _ _ _ _ htaking]
  exact congrArg _ (s.taking_refuse m rest code)

/-- Settles O39: each check is the first that fails. -/
theorem windowCommandChecks : Obligations.WindowCommandChecks := by
  intro s m rest cmd h p hp hcode
  refine ⟨fun habove => ?_, fun w hid => ⟨fun hf => ?_, fun hf hw => ?_, fun hf hw hsponsor hsup => ?_⟩⟩
  · exact h.windowRow_refused hp hcode (State.windowNamed_above habove)
  · exact h.windowRow_refused hp hcode (State.windowNamed_free hid hf)
  · exact h.windowRow_refused hp hcode (State.windowNamed_port hid hf hw)
  · exact h.windowRow_refused hp hcode (State.windowNamed_noAuthority hid hf hw hsponsor hsup)

/-! ## The authority of the Registry commands (R112) -/

theorem State.registryCommand_refused (hsup : (s.master m).supervisor = false) (own : State) :
    s.registryCommand m own = s.refuse m .noAuthority := by
  simp [State.registryCommand, hsup]

/-- Every Registry row takes its command, and refuses it to an issuer that is no supervisor. -/
theorem exec_registryRow {p : Instr × Word} (hp : p ∈ registryRows) :
    ∃ c effect, p.2 = c.code ∧ (∀ s, exec p.1 s = s.take (isCommand c) effect)
      ∧ ∀ m cmd s, (s.master m).supervisor = false → effect m cmd s = s.refuse m .noAuthority := by
  simp only [registryRows, List.mem_cons, List.not_mem_nil, or_false] at hp
  obtain rfl | rfl | rfl | rfl | rfl := hp
  · exact ⟨.setSlot, setSlotEffect, rfl, fun _ => rfl, fun _ _ _ hs => State.registryCommand_refused hs _⟩
  · exact ⟨.slotOnline, slotOnlineEffect, rfl, fun _ => rfl, fun _ _ _ hs => State.registryCommand_refused hs _⟩
  · exact ⟨.slotOffline, slotOfflineEffect, rfl, fun _ => rfl, fun _ _ _ hs => State.registryCommand_refused hs _⟩
  · exact ⟨.setMaster, setMasterEffect, rfl, fun _ => rfl, fun _ _ _ hs => State.registryCommand_refused hs _⟩
  · exact ⟨.tune, tuneEffect, rfl, fun _ => rfl, fun _ _ _ hs => State.registryCommand_refused hs _⟩

/-- Settles O48: the check of authority comes first and fails. -/
theorem registryCommandAuthority : Obligations.RegistryCommandAuthority := by
  intro s m rest cmd h hsup p hp hcode
  obtain ⟨c, effect, hrow, hexec, hrefused⟩ := exec_registryRow hp
  have hnamed : isCommand c cmd.code = true := isCommand_of (by rw [hcode, hrow, commandOf_code])
  rw [hexec, h.take hnamed, hrefused m cmd (s.taking m rest) hsup]
  exact congrArg _ (s.taking_refuse m rest .noAuthority)

end Sys2Proof.Machine
end

section
/-!
PROOFS. The commands that reshape a window or hand it on: RESIZE (O42), MOVE (O43), RESTACK (O44), GRANT and HANDOVER
(O45).
-/
namespace Sys2Proof.Machine

variable {s : State} {m : MasterId} {rest : List MasterId} {cmd : Captured} {w : WindowId}

/-! ## The checks, in the words of the rules -/

theorem rangeOk_eq_false {base length : Nat} {target : Option Nat} (h : ¬ InBounds base length target) :
    rangeOk base length target = false :=
  Bool.eq_false_iff.2 (mt (rangeOk_iff base length target).1 h)

theorem State.overlaps_eq_false {own : Option WindowId} {space : Space} {layer : Fin 4} {base length : Nat}
    (hr : s.RangeLaw) (hl : 1 ≤ length) (h : ¬ s.Collides own space layer base length) :
    s.overlaps own space layer base length = false :=
  Bool.eq_false_iff.2 (mt (s.overlaps_iff hr own space layer hl).1 h)

theorem State.unreferenced_eq_false (h : s.Referenced w) : s.unreferenced w = false :=
  Bool.eq_false_iff.2 fun hu => (s.unreferenced_iff w).1 hu h

/-- A window that is not FREE holds at least one unit (R2). -/
theorem State.RangeLaw.one_le_length (hr : s.RangeLaw) (hf : (s.window w).state ≠ .free) :
    1 ≤ (s.window w).length :=
  ((rangeOk_iff _ _ _).1 ((hr w).1 hf)).lengthIn.1

theorem indexOf_eq_none {n value : Nat} (h : n ≤ value) : indexOf n value = none :=
  dif_neg (Nat.not_lt.2 h)

/-! ## The result words (R131, R138, Tables 12-4 and 12-5) -/

/-- A unit number leaves bit 15 of its word for the presence (Table 12-4). -/
theorem optionalUnitWord_eq {target : Option Nat} (h : ∀ n ∈ target, n ≤ 4095) :
    optionalUnitWord target = targetWord target := by
  cases target with
  | none => rfl
  | some n =>
    have hn : n < 2 ^ 12 := Nat.lt_succ_of_le (h n rfl)
    rw [optionalUnitWord, lay_eq hn, pack, ← List.sum_eq_foldr]
    simp [targetWord, layBit]

theorem shapeWords_eq {win : Window} (id : WindowId) (h : InBounds win.base win.length win.target) :
    shapeWords id win = doneShape id win := by
  have htarget := optionalUnitWord_eq fun n hn => (h.targetIn n hn).1
  simp only [shapeWords, htarget]
  rfl

theorem fieldOf_low (x : Word) (width : Nat) : fieldOf x 0 width = x.toNat % 2 ^ width := by
  simp [fieldOf]

theorem readSetOf_eq (sets : Word) : readSetOf sets = BitVec.ofNat 8 (sets.toNat % 256) :=
  congrArg (BitVec.ofNat 8) (fieldOf_low sets 8)

theorem writeSetOf_eq (sets : Word) : writeSetOf sets = BitVec.ofNat 8 (sets.toNat / 256) := by
  have hhigh : sets.toNat / 256 < 256 := Nat.div_lt_of_lt_mul sets.isLt
  exact congrArg (BitVec.ofNat 8) (Nat.mod_eq_of_lt hhigh)

/-- The two sets fill their word, so it is read back whole (Table 12-3). -/
theorem setsWord_readSetOf_writeSetOf (sets : Word) : setsWord (readSetOf sets) (writeSetOf sets) = sets := by
  apply BitVec.eq_of_toNat_eq
  have hread := (readSetOf sets).isLt
  have hwrite := (writeSetOf sets).isLt
  rw [setsWord, lay_eq hread, lay_eq hwrite, toNat_pack]
  · simp only [readSetOf_eq, writeSetOf_eq, List.sum_cons, List.sum_nil, BitVec.toNat_ofNat]
    omega
  · simp only [List.sum_cons, List.sum_nil]
    omega

/-! ## Takes of a named command (R110) -/

theorem State.Takes.take_command {c : Command} (h : s.Takes m rest cmd) (hcode : cmd.code = c.code)
    (effect : MasterId → Captured → State → State) :
    s.take (isCommand c) effect = .next (effect m cmd (s.taking m rest)) :=
  h.take (isCommand_of (hcode ▸ commandOf_code c)) effect

/-! ## RESIZE (R126 to R128) -/

theorem exec_resize (s : State) : exec .resize s = s.take (isCommand .resize) resizeEffect := rfl

/-- RESIZE of an ACTIVE window: its two checks, then the new length (R126). -/
theorem State.Takes.resize (h : s.Takes m rest cmd) (hcode : cmd.code = Command.resize.code)
    (hmay : s.MayCommand m cmd w) (hactive : (s.window w).state = .active) :
    exec .resize s = .next
      (if !rangeOk (s.window w).base cmd.words.w1.toNat (s.window w).target then
        s.takeEnds m rest .badRange ⟨0, 0, 0, 0, 0⟩
      else if (s.window w).length < cmd.words.w1.toNat
          ∧ s.overlaps (some w) (s.window w).space (s.window w).layer (s.window w).base cmd.words.w1.toNat = true then
        s.takeEnds m rest .overlap ⟨0, 0, 0, 0, 0⟩
      else (s.taking m rest).resizeWindow m w cmd.words.w1.toNat) := by
  rw [exec_resize, h.take_command hcode, resizeEffect, hmay.windowCommand]
  simp only [Bool.and_eq_true, decide_eq_true_eq]
  simp only [State.taking_window, State.taking_overlaps, State.taking_refuse, hactive]

theorem State.resizeWindow_applied {length : Nat} (h : (s.window w).length ≤ length ∨ ¬ s.Referenced w) :
    (s.taking m rest).resizeWindow m w length
      = (s.setWindow w ((s.window w).withLength length)).takeEnds m rest .done
          (shapeWords w ((s.window w).withLength length)) := by
  have hguard : ¬ (decide (length < (s.window w).length) && !s.unreferenced w) = true := by
    obtain hle | hu := h
    · simp [Nat.not_lt.2 hle]
    · simp [(s.unreferenced_iff w).2 hu]
  exact (if_neg hguard).trans (s.taking_setWindow_done m rest w _ _)

theorem State.resizeWindow_waits {length : Nat} (hlt : length < (s.window w).length) (href : s.Referenced w) :
    (s.taking m rest).resizeWindow m w length
      = s.takeWaits m rest w
          ((s.window w).heldFor ⟨(s.window w).base, length, (s.window w).slot, (s.window w).target⟩) := by
  have hguard : (decide (length < (s.window w).length) && !s.unreferenced w) = true := by
    simp [hlt, State.unreferenced_eq_false href]
  exact (if_pos hguard).trans (s.taking_awaitWindow m rest w _)

/-- Settles O42: the two checks, then the three lengths: one that needs no wait is taken at once, a smaller one with
references waits. -/
theorem resizeOutcome : Obligations.ResizeOutcome := by
  rintro s m rest cmd w htake hcode hmay hactive hrange length rfl
  have hexec := htake.resize hcode hmay hactive
  refine ⟨fun hout => ?_, fun hin => ?_⟩
  · simp [hexec, rangeOk_eq_false hout]
  have hoverlaps := s.overlaps_iff hrange (some w) (s.window w).space (s.window w).layer
    (base := (s.window w).base) hin.lengthIn.1
  simp only [(rangeOk_iff _ _ _).2 hin, Bool.not_true, Bool.false_eq_true, if_false] at hexec
  rw [hexec]
  refine ⟨fun hgrow hmeet => ?_, fun hpass => ?_, fun hlt href => ?_⟩
  · rw [if_pos ⟨hgrow, hoverlaps.2 hmeet⟩]
  · have hclear : ¬ ((s.window w).length < cmd.words.w1.toNat
        ∧ s.overlaps (some w) (s.window w).space (s.window w).layer (s.window w).base cmd.words.w1.toNat = true) := by
      rintro ⟨hgrow, hmeet⟩
      obtain ⟨-, hno⟩ | hsame | ⟨hlt, -⟩ := hpass
      · exact hno (hoverlaps.1 hmeet)
      · omega
      · omega
    have happlied : (s.window w).length ≤ cmd.words.w1.toNat ∨ ¬ s.Referenced w := by
      obtain ⟨hgrow, -⟩ | hsame | ⟨-, hno⟩ := hpass
      · exact .inl (Nat.le_of_lt hgrow)
      · exact .inl (Nat.le_of_eq hsame)
      · exact .inr hno
    rw [if_neg hclear, State.resizeWindow_applied happlied, shapeWords_eq w hin]
    rfl
  · rw [if_neg fun hgrow => Nat.lt_asymm hlt hgrow.1, State.resizeWindow_waits hlt href]
    rfl

/-! ## MOVE (R129 to R131) -/

theorem exec_move (s : State) : exec .move s = s.take (isCommand .move) moveEffect := rfl

/-- MOVE of an ACTIVE window to a slot above 15 (R129). -/
theorem State.Takes.move_badOperand (h : s.Takes m rest cmd) (hcode : cmd.code = Command.move.code)
    (hmay : s.MayCommand m cmd w) (hactive : (s.window w).state = .active)
    (hslot : moveSlotOperand cmd.words = none) :
    exec .move s = .next (s.takeEnds m rest .badOperand ⟨0, 0, 0, 0, 0⟩) := by
  rw [exec_move, h.take_command hcode, moveEffect, hmay.windowCommand]
  simp only [State.taking_window, State.taking_refuse, hactive, hslot]

/-- MOVE of an ACTIVE window to a slot: its three checks, then the change (R129). -/
theorem State.Takes.move {k : SlotId} (h : s.Takes m rest cmd) (hcode : cmd.code = Command.move.code)
    (hmay : s.MayCommand m cmd w) (hactive : (s.window w).state = .active)
    (hslot : moveSlotOperand cmd.words = some k) :
    exec .move s = .next
      (if !rangeOk cmd.words.w1.toNat (s.window w).length (moveTargetOperand cmd.words) then
        s.takeEnds m rest .badRange ⟨0, 0, 0, 0, 0⟩
      else if (s.slot k).state ≠ .online then s.takeEnds m rest .badSlot ⟨0, 0, 0, 0, 0⟩
      else if s.overlaps (some w) (s.window w).space (s.window w).layer cmd.words.w1.toNat (s.window w).length then
        s.takeEnds m rest .overlap ⟨0, 0, 0, 0, 0⟩
      else (s.taking m rest).moveWindow m w
        ⟨cmd.words.w1.toNat, (s.window w).length, k, moveTargetOperand cmd.words⟩) := by
  rw [exec_move, h.take_command hcode, moveEffect, hmay.windowCommand]
  simp only [State.taking_window, State.taking_slot, State.taking_overlaps, State.taking_refuse, hactive, hslot]

theorem State.moveWindow_applied (hu : ¬ s.Referenced w) (c : PendingChange) :
    (s.taking m rest).moveWindow m w c
      = (s.setWindow w ((s.window w).reshaped c).unstruck).takeEnds m rest .done
          (shapeWords w ((s.window w).reshaped c).unstruck) :=
  (if_pos ((s.unreferenced_iff w).2 hu)).trans (s.taking_setWindow_done m rest w _ _)

theorem State.moveWindow_waits (href : s.Referenced w) (c : PendingChange) :
    (s.taking m rest).moveWindow m w c = s.takeWaits m rest w ((s.window w).heldFor c) :=
  (if_neg fun hu => (s.unreferenced_iff w).1 hu href).trans (s.taking_awaitWindow m rest w _)

/-- Settles O43: the checks in their order, then the change, taken at once or through HELD. -/
theorem moveOutcome : Obligations.MoveOutcome := by
  rintro s m rest cmd w htake hcode hmay hactive hrange base target rfl htarget
  have hslotOf : moveSlotOperand cmd.words = indexOf 16 (cmd.words.w2.toNat % 32) :=
    congrArg (indexOf 16) (fieldOf_low _ 5)
  refine ⟨fun habove => ?_, fun k hk => ?_⟩
  · exact htake.move_badOperand hcode hmay hactive (hslotOf.trans (indexOf_eq_none habove))
  have hexec := htake.move hcode hmay hactive (hslotOf.trans (indexOf_eq_some hk.symm))
  rw [show moveTargetOperand cmd.words = target from htarget.symm] at hexec
  refine ⟨fun hout => ?_, fun hin => ⟨fun hoffline => ?_, fun honline => ⟨fun hmeet => ?_, fun hno => ?_⟩⟩⟩
  · simp [hexec, rangeOk_eq_false hout]
  · simp [hexec, (rangeOk_iff _ _ _).2 hin, hoffline]
  · simp [hexec, (rangeOk_iff _ _ _).2 hin, honline, (s.overlaps_iff hrange _ _ _ hin.lengthIn.1).2 hmeet]
  · simp only [hexec, (rangeOk_iff _ _ _).2 hin, honline, State.overlaps_eq_false hrange hin.lengthIn.1 hno, ne_eq,
      not_true_eq_false, Bool.not_true, Bool.false_eq_true, if_false]
    refine ⟨fun hu => ?_, fun href => ?_⟩
    · refine congrArg _ ((State.moveWindow_applied hu _).trans ?_)
      rw [shapeWords_eq w hin]
      rfl
    · exact congrArg _ (State.moveWindow_waits href _)

/-! ## RESTACK (R137) -/

theorem exec_restack (s : State) : exec .restack s = s.take (isCommand .restack) restackEffect := rfl

/-- RESTACK runs alike on an ACTIVE and on a SUSPENDED window (R137). -/
theorem State.Takes.restack (h : s.Takes m rest cmd) (hcode : cmd.code = Command.restack.code)
    (hmay : s.MayCommand m cmd w) (hs : (s.window w).state = .active ∨ (s.window w).state = .suspended) :
    exec .restack s = .next ((s.taking m rest).restackWindow m w cmd.words.w1) := by
  rw [exec_restack, h.take_command hcode, restackEffect, hmay.windowCommand]
  obtain hs | hs := hs <;> simp only [State.taking_window, hs]

theorem State.restackWindow_above {layerWord : Word} (h : 4 ≤ layerWord.toNat) :
    (s.taking m rest).restackWindow m w layerWord = s.takeEnds m rest .badOperand ⟨0, 0, 0, 0, 0⟩ := by
  simp only [State.restackWindow, indexOf_eq_none h, State.taking_refuse]

theorem State.restackWindow_layer {layerWord : Word} {layer : Fin 4} (h : layer.val = layerWord.toNat) :
    (s.taking m rest).restackWindow m w layerWord =
      if s.overlaps (some w) (s.window w).space layer (s.window w).base (s.window w).length then
        s.takeEnds m rest .overlap ⟨0, 0, 0, 0, 0⟩
      else (s.setWindow w ((s.window w).withLayer layer)).takeEnds m rest .done
        ⟨wordOf w.val, wordOf layer.val, 0, 0, 0⟩ := by
  simp only [State.restackWindow, indexOf_eq_some h.symm, State.taking_window, State.taking_overlaps,
    State.taking_refuse, State.taking_setWindow_done]

/-- Settles O44: the layer's range, then the OVERLAP check at the new layer. -/
theorem restackOutcome : Obligations.RestackOutcome := by
  intro s m rest cmd w htake hcode hmay hs hrange
  rw [htake.restack hcode hmay hs]
  refine ⟨fun habove => congrArg _ (State.restackWindow_above habove), fun l hl => ?_⟩
  have hlength := hrange.one_le_length hmay.notFree
  rw [State.restackWindow_layer hl]
  refine ⟨fun hmeet => ?_, fun hno => ?_⟩
  · rw [if_pos ((s.overlaps_iff hrange _ _ _ hlength).2 hmeet)]
  · rw [State.overlaps_eq_false hrange hlength hno]
    rfl

/-! ## GRANT and HANDOVER (R138, R139) -/

theorem exec_grant (s : State) : exec .grant s = s.take (isCommand .grant) grantEffect := rfl

theorem exec_handover (s : State) : exec .handover s = s.take (isCommand .handover) handoverEffect := rfl

/-- The states in which GRANT and HANDOVER are taken (R138, R139). -/
theorem WinState.active_or_held_or_suspended {st : WinState} (hfree : st ≠ .free) (hdraining : st ≠ .draining) :
    st = .active ∨ st = .held ∨ st = .suspended := by
  cases st <;> simp at hfree hdraining ⊢

/-- GRANT runs alike on every window but a FREE or a DRAINING one (R138). -/
theorem State.Takes.grant (h : s.Takes m rest cmd) (hcode : cmd.code = Command.grant.code)
    (hmay : s.MayCommand m cmd w) (hs : (s.window w).state ≠ .draining) :
    exec .grant s = .next ((s.taking m rest).grantWindow m w cmd.words.w1) := by
  rw [exec_grant, h.take_command hcode, grantEffect, hmay.windowCommand]
  obtain hs | hs | hs := WinState.active_or_held_or_suspended hmay.notFree hs <;> simp only [State.taking_window, hs]

/-- HANDOVER runs alike on every window but a FREE or a DRAINING one (R139). -/
theorem State.Takes.handover (h : s.Takes m rest cmd) (hcode : cmd.code = Command.handover.code)
    (hmay : s.MayCommand m cmd w) (hs : (s.window w).state ≠ .draining) :
    exec .handover s = .next ((s.taking m rest).handoverWindow m w cmd.words.w1) := by
  rw [exec_handover, h.take_command hcode, handoverEffect, hmay.windowCommand]
  obtain hs | hs | hs := WinState.active_or_held_or_suspended hmay.notFree hs <;> simp only [State.taking_window, hs]

theorem State.taking_grantWindow (s : State) (m : MasterId) (rest : List MasterId) (w : WindowId) (sets : Word) :
    (s.taking m rest).grantWindow m w sets
      = (s.setWindow w ((s.window w).withSets (readSetOf sets) (writeSetOf sets))).takeEnds m rest .done
          ⟨wordOf w.val, sets, 0, 0, 0⟩ := by
  simp only [State.grantWindow, setsWord_readSetOf_writeSetOf, State.taking_window, State.taking_setWindow_done]

theorem State.handoverWindow_above {sponsorWord : Word} (h : 8 ≤ sponsorWord.toNat) :
    (s.taking m rest).handoverWindow m w sponsorWord = s.takeEnds m rest .badOperand ⟨0, 0, 0, 0, 0⟩ := by
  simp only [State.handoverWindow, indexOf_eq_none h, State.taking_refuse]

theorem State.handoverWindow_sponsor {sponsorWord : Word} {sponsor : MasterId}
    (h : sponsor.val = sponsorWord.toNat) :
    (s.taking m rest).handoverWindow m w sponsorWord
      = (s.setWindow w ((s.window w).withSponsor sponsor)).takeEnds m rest .done
          ⟨wordOf w.val, wordOf sponsor.val, 0, 0, 0⟩ := by
  simp only [State.handoverWindow, indexOf_eq_some h.symm, State.taking_window, State.taking_setWindow_done]

/-- Settles O45: both commands write one record and end, and a HANDOVER reads its sponsor first. -/
theorem grantAndHandoverOutcome : Obligations.GrantAndHandoverOutcome := by
  intro s m rest cmd w htake hmay hs
  refine ⟨fun hcode => ?_, fun hcode habove => ?_, fun hcode sponsor hsponsor => ?_⟩
  · rw [htake.grant hcode hmay hs, State.taking_grantWindow, readSetOf_eq, writeSetOf_eq]
    rfl
  · rw [htake.handover hcode hmay hs, State.handoverWindow_above habove]
  · rw [htake.handover hcode hmay hs, State.handoverWindow_sponsor hsponsor]
    rfl

end Sys2Proof.Machine
end

section
/-!
PROOFS. The RETIRE of an ACTIVE or a SUSPENDED window (O46).
-/
namespace Sys2Proof.Machine

variable {s : State} {m : MasterId} {rest : List MasterId} {cmd : Captured} {w : WindowId}

/-! ## Windows that no context waits on (R8, R9, R147) -/

/-- The waits' law, read at one window record (R8, R9). -/
theorem State.WaitLaw.windowSound (h : s.WaitLaw) (w : WindowId) : (s.window w).Sound :=
  ⟨h.change_iff_held w, h.held_waits w, h.waiting_state w⟩

/-- A DRAINING window that no context waits on becomes FREE and completes nothing (R147). -/
theorem State.becomeFree_unwaited (h : (s.window w).waiting = none) : s.becomeFree w = s.setWindow w .cleared := by
  simp only [State.becomeFree, State.completeWaiter, h]

/-- A window written DRAINING, with no waiter and no references, is cleared by its drain check (R145, R147). -/
theorem State.drainCheck_setWindow_draining {win : Window} (hu : ¬ s.Referenced w) (hs : win.state = .draining)
    (hwait : win.waiting = none) : (s.setWindow w win).drainCheck w = s.setWindow w .cleared := by
  have hself : (s.setWindow w win).window w = win := s.window_setWindow_self w win
  calc (s.setWindow w win).drainCheck w
      = (s.setWindow w win).becomeFree w := State.drainCheck_draining hu (hself.symm ▸ hs)
    _ = (s.setWindow w win).setWindow w .cleared := State.becomeFree_unwaited (hself.symm ▸ hwait)
    _ = s.setWindow w .cleared := s.setWindow_setWindow w win .cleared

/-! ## RETIRE (R142, R143) -/

theorem exec_retire (s : State) : exec .retire s = s.take (isCommand .retire) retireEffect := rfl

/-- RETIRE runs alike on an ACTIVE and on a SUSPENDED window (R143). -/
theorem State.Takes.retire (h : s.Takes m rest cmd) (hcode : cmd.code = Command.retire.code)
    (hmay : s.MayCommand m cmd w) (hs : (s.window w).state = .active ∨ (s.window w).state = .suspended) :
    exec .retire s = .next ((s.taking m rest).retireWindow m w) := by
  rw [exec_retire, h.take_command hcode, retireEffect, hmay.windowCommand]
  obtain hs | hs := hs <;> simp only [State.taking_window, hs]

/-- Without references the window is cleared in the take, and the result words show what it was (R143, R147). -/
theorem State.retireWindow_freed (hu : ¬ s.Referenced w) (hwait : (s.window w).waiting = none) :
    (s.taking m rest).retireWindow m w
      = (s.setWindow w .cleared).takeEnds m rest .done (retireWords w (s.window w)) := by
  have hdrain : ((s.taking m rest).setWindow w (s.window w).draining).drainCheck w
      = (s.taking m rest).setWindow w .cleared := State.drainCheck_setWindow_draining hu rfl hwait
  calc (s.taking m rest).retireWindow m w
      = (((s.taking m rest).setWindow w (s.window w).draining).drainCheck w).done m (retireWords w (s.window w)) :=
        if_pos ((s.unreferenced_iff w).2 hu)
    _ = ((s.taking m rest).setWindow w .cleared).done m (retireWords w (s.window w)) := by rw [hdrain]
    _ = (s.setWindow w .cleared).takeEnds m rest .done (retireWords w (s.window w)) :=
        s.taking_setWindow_done m rest w _ _

/-- With references the window is DRAINING and the context waits on it (R143). -/
theorem State.retireWindow_waits (href : s.Referenced w) :
    (s.taking m rest).retireWindow m w = s.takeWaits m rest w (s.window w).draining :=
  (if_neg fun hu => (s.unreferenced_iff w).1 hu href).trans (s.taking_awaitWindow m rest w _)

/-- Settles O46: by the law of the waits nothing waits on the window yet, so the drain check of a window without
references completes no other context; with references the RETIRE itself waits. -/
theorem retireOutcome : Obligations.RetireOutcome := by
  intro s m rest cmd w htake hcode hmay hs hlaw
  have hundrained : (s.window w).Undrained := hs.elim Window.undrained_of_active Window.undrained_of_suspended
  obtain ⟨-, -, hwait⟩ := (hlaw.windowSound w).idle hundrained
  rw [htake.retire hcode hmay hs]
  refine ⟨fun hu => ?_, fun href => ?_⟩
  · exact congrArg _ (State.retireWindow_freed hu hwait)
  · exact congrArg _ (State.retireWindow_waits href)

end Sys2Proof.Machine
end

section
/-!
PROOFS. INSPECT: its operands, its takes, and the words of every record and page (O54).
-/
namespace Sys2Proof.Machine

variable {s : State} {m : MasterId} {rest : List MasterId} {cmd : Captured}

/-! ## The operands (R158, Table 12-3) -/

section Operands

variable {ws : Words}

theorem inspectOperand_unknown (h : ws.w0.toNat = 0 ∨ 4 < ws.w0.toNat) : inspectOperand ws = none := by
  unfold inspectOperand
  split
  case h_5 => rfl
  all_goals omega

theorem inspectOperand_window_out (hk : ws.w0.toNat = 1) (h : 63 < ws.w1.toNat ∨ 33 < ws.w2.toNat) :
    inspectOperand ws = none := by
  obtain hnumber | hpage := h
  · simp [inspectOperand, hk, indexOf_eq_none hnumber]
  · obtain ⟨n, hn⟩ : ∃ n, ws.w2.toNat = n + 2 := ⟨ws.w2.toNat - 2, by omega⟩
    have hout : ¬ n ≤ 31 := by omega
    cases hid : indexOf 64 ws.w1.toNat <;> simp [inspectOperand, hk, hn, hid, hout]

theorem page_ne_zero (h : 0 < ws.w2.toNat) : ws.w2 ≠ 0 := fun h0 => by simp [h0] at h

theorem page_eq_zero (h : ws.w2.toNat = 0) : ws.w2 = 0 := BitVec.eq_of_toNat_eq h

theorem inspectOperand_slot_out (hk : ws.w0.toNat = 2) (h : 15 < ws.w1.toNat ∨ 0 < ws.w2.toNat) :
    inspectOperand ws = none := by
  obtain hnumber | hpage := h
  · simp [inspectOperand, hk, indexOf_eq_none hnumber]
  · simp only [inspectOperand, hk, if_neg (page_ne_zero hpage)]

theorem inspectOperand_master_out (hk : ws.w0.toNat = 3) (h : 7 < ws.w1.toNat ∨ 0 < ws.w2.toNat) :
    inspectOperand ws = none := by
  obtain hnumber | hpage := h
  · simp [inspectOperand, hk, indexOf_eq_none hnumber]
  · simp only [inspectOperand, hk, if_neg (page_ne_zero hpage)]

theorem inspectOperand_attention_out (hk : ws.w0.toNat = 4) (h : 0 < ws.w2.toNat) : inspectOperand ws = none := by
  simp only [inspectOperand, hk, if_neg (page_ne_zero h)]

theorem inspectOperand_windowRecord {w : WindowId} (hk : ws.w0.toNat = 1) (hn : ws.w1.toNat = w.val)
    (hp : ws.w2.toNat = 0) : inspectOperand ws = some (.windowRecord w) := by
  simp [inspectOperand, hk, indexOf_eq_some hn, hp]

theorem inspectOperand_windowWait {w : WindowId} (hk : ws.w0.toNat = 1) (hn : ws.w1.toNat = w.val)
    (hp : ws.w2.toNat = 1) : inspectOperand ws = some (.windowWait w) := by
  simp [inspectOperand, hk, indexOf_eq_some hn, hp]

theorem inspectOperand_windowEntry {w : WindowId} {n : Nat} (hk : ws.w0.toNat = 1) (hn : ws.w1.toNat = w.val)
    (hp : ws.w2.toNat = n + 2) (hle : n ≤ 31) : inspectOperand ws = some (.windowEntry w n) := by
  simp [inspectOperand, hk, indexOf_eq_some hn, hp, hle]

theorem inspectOperand_slot {k : SlotId} (hk : ws.w0.toNat = 2) (hn : ws.w1.toNat = k.val) (hp : ws.w2.toNat = 0) :
    inspectOperand ws = some (.slot k) := by
  simp [inspectOperand, hk, indexOf_eq_some hn, page_eq_zero hp]

theorem inspectOperand_master {k : MasterId} (hk : ws.w0.toNat = 3) (hn : ws.w1.toNat = k.val)
    (hp : ws.w2.toNat = 0) : inspectOperand ws = some (.master k) := by
  simp [inspectOperand, hk, indexOf_eq_some hn, page_eq_zero hp]

theorem inspectOperand_attention (hk : ws.w0.toNat = 4) (hp : ws.w2.toNat = 0) :
    inspectOperand ws = some .attention := by
  simp [inspectOperand, hk, page_eq_zero hp]

end Operands

/-! ## The take (R110, R158) -/

theorem exec_inspect (s : State) : exec .inspect s = s.take (isCommand .inspect) inspectEffect := rfl

/-- The words are read from tables that the take has not changed. -/
theorem State.taking_inspectWords (s : State) (m : MasterId) (rest : List MasterId) (o : InspectOperand) :
    (s.taking m rest).inspectWords o = s.inspectWords o := by
  cases o <;> rfl

theorem State.Takes.inspect_badOperand (h : s.Takes m rest cmd) (hcode : cmd.code = Command.inspect.code)
    (ho : inspectOperand cmd.words = none) :
    exec .inspect s = .next (s.takeEnds m rest .badOperand ⟨0, 0, 0, 0, 0⟩) := by
  simp only [exec_inspect, h.take_command hcode, inspectEffect, ho, State.taking_refuse]

theorem State.Takes.inspect {o : InspectOperand} (h : s.Takes m rest cmd) (hcode : cmd.code = Command.inspect.code)
    (ho : inspectOperand cmd.words = some o) :
    exec .inspect s = .next (s.takeEnds m rest .done (s.inspectWords o)) := by
  simp only [exec_inspect, h.take_command hcode, inspectEffect, ho, State.taking_inspectWords, State.taking_done]

/-! ## Fields and words (R167, Table 12-2) -/

/-- A flag is a field of one bit. -/
theorem layBit_eq (b : Bool) (lo : Nat) : layBit b lo = b.toNat * 2 ^ lo := by
  cases b <;> simp [layBit]

theorem toNat_wordOf {n : Nat} (h : n < 65536) : (wordOf n).toNat = n :=
  Nat.mod_eq_of_lt h

theorem WinState.code_of_mem {st : WinState} {n : Nat} (h : (st, n) ∈ windowStateCodes) : st.code = n := by
  cases st <;> simpa [windowStateCodes, WinState.code, eq_comm] using h

theorem WinState.code_lt (st : WinState) : st.code < 8 := by cases st <;> decide

theorem SlotState.code_of_mem {st : SlotState} {n : Nat} (h : (st, n) ∈ slotStateCodes) : st.code = n := by
  cases st <;> simpa [slotStateCodes, SlotState.code, eq_comm] using h

theorem SlotState.code_lt (st : SlotState) : st.code < 4 := by cases st <;> decide

theorem toNat_setsWord (readSet writeSet : MasterSet) :
    (setsWord readSet writeSet).toNat = readSet.toNat + 256 * writeSet.toNat := by
  have hread := readSet.isLt
  have hwrite := writeSet.isLt
  rw [setsWord, lay_eq hread, lay_eq hwrite, toNat_pack] <;> simp only [List.sum_cons, List.sum_nil] <;> omega

/-- A count over the windows fits in its word (R160). -/
theorem toNat_countWindows (p : WindowId → Bool) :
    (wordOf ((List.finRange 64).countP p)).toNat = (List.finRange 64).countP p := by
  have hle : (List.finRange 64).countP p ≤ 64 := Nat.le_trans List.countP_le_length (Nat.le_of_eq List.length_finRange)
  exact toNat_wordOf (by omega)

theorem State.OrtLaw.countP_le (h : s.OrtLaw) (p : OrtEntry → Bool) : s.ort.countP p ≤ 32 :=
  Nat.le_trans List.countP_le_length h.1

theorem State.OrtLaw.toNat_countP (h : s.OrtLaw) (p : OrtEntry → Bool) :
    (wordOf (s.ort.countP p)).toNat = s.ort.countP p := by
  have hle := h.countP_le p
  exact toNat_wordOf (by omega)

/-! ## The WINDOW record (R159, Table 12-5) -/

theorem InBounds.target_le {base length : Nat} {target : Option Nat} (h : InBounds base length target) :
    ∀ n ∈ target, n ≤ 4095 :=
  fun n hn => (h.targetIn n hn).1

/-- The numbers of a record fit in the bits that Table 12-5 gives them. -/
structure Window.Fits (win : Window) : Prop where
  base : win.base < 2 ^ 12
  length : win.length < 2 ^ 13
  strikes : win.strikes < 2 ^ 4
  target : ∀ n ∈ win.target, n ≤ 4095

/-- A FREE record is cleared, and any other lies within its space (R1, R2, R51). -/
theorem State.DeviceLaws.window_fits (h : s.DeviceLaws) (w : WindowId) : (s.window w).Fits := by
  by_cases hfree : (s.window w).state = .free
  · rw [h.cleared w hfree]
    exact ⟨by decide, by decide, by decide, nofun⟩
  · have hin := (rangeOk_iff _ _ _).1 ((h.range w).1 hfree)
    exact ⟨Nat.lt_succ_of_le hin.baseIn, Nat.lt_of_le_of_lt hin.lengthIn.2 (by decide),
      Nat.lt_succ_of_le (h.strike.2 w).2, hin.target_le⟩

theorem toNat_windowRecordWords_w0 (win : Window) :
    (windowRecordWords win).w0.toNat = win.state.code + (if win.space = .io then 8 else 0) + 16 * win.layer.val
      + 64 * win.slot.val + 1024 * win.sponsor.val := by
  have hstate := win.state.code_lt
  have hlayer := win.layer.isLt
  have hslot := win.slot.isLt
  have hsponsor := win.sponsor.isLt
  have hspace : lay (inspectSpaceCode win.space) 3 1 = if win.space = .io then 8 else 0 := by
    cases win.space <;> rfl
  have hspace_le : (if win.space = .io then 8 else 0) ≤ 8 := by split <;> decide
  rw [windowRecordWords, hspace, lay_eq (width := 3) hstate, lay_eq (width := 2) hlayer, lay_eq (width := 4) hslot,
    lay_eq (width := 3) hsponsor, toNat_pack] <;> simp only [List.sum_cons, List.sum_nil] <;> omega

section Fits

variable {win : Window}

theorem Window.Fits.toNat_windowRecordWords_w1 (h : win.Fits) :
    (windowRecordWords win).w1.toNat = win.base + 4096 * win.strikes := by
  have hbase := h.base
  have hstrikes := h.strikes
  rw [windowRecordWords, lay_eq hbase, lay_eq hstrikes, toNat_pack] <;>
    simp only [List.sum_cons, List.sum_nil] <;> omega

theorem Window.Fits.toNat_windowRecordWords_w2 (h : win.Fits) : (windowRecordWords win).w2.toNat = win.length := by
  have hlength := h.length
  rw [windowRecordWords, lay_eq hlength, toNat_pack] <;> simp only [List.sum_cons, List.sum_nil] <;> omega

end Fits

/-! ## The WINDOW wait page (R159, Table 12-5) -/

theorem State.windowWaitWords_noChange {w : WindowId} (h : (s.window w).change = none) :
    (s.windowWaitWords w).w0 = 0 ∧ (s.windowWaitWords w).w1 = 0 ∧ (s.windowWaitWords w).w3 = 0 := by
  simp only [State.windowWaitWords, h]
  decide

/-- A pending change is shown with its presence (R8). -/
theorem State.windowWaitWords_change {w : WindowId} {c : PendingChange} (h : (s.window w).change = some c)
    (hin : InBounds c.base c.length c.target) :
    (s.windowWaitWords w).w0.toNat = c.base + 32768 ∧ (s.windowWaitWords w).w1.toNat = c.length
      ∧ (s.windowWaitWords w).w3 = targetWord c.target := by
  have hbase : c.base < 2 ^ 12 := Nat.lt_succ_of_le hin.baseIn
  have hlength : c.length < 2 ^ 13 := Nat.lt_of_le_of_lt hin.lengthIn.2 (by decide)
  have hpresent : layBit true 15 = 32768 := rfl
  simp only [State.windowWaitWords, h, Option.map_some, Option.getD_some, Option.isSome_some, Option.bind_some]
  refine ⟨?_, ?_, optionalUnitWord_eq hin.target_le⟩
  · rw [lay_eq hbase, toNat_pack] <;> simp only [List.sum_cons, List.sum_nil] <;> omega
  · rw [lay_eq hlength, toNat_pack] <;> simp only [List.sum_cons, List.sum_nil] <;> omega

/-- The number of the pending change's slot, zero when there is none, fits in its four bits. -/
theorem Window.changeSlot_lt (win : Window) : (win.change.map (·.slot.val)).getD 0 < 16 := by
  cases win.change with
  | none => decide
  | some c => exact c.slot.isLt

/-- The number of the waiting master, zero when there is none, fits in its three bits. -/
theorem Window.waiter_lt (win : Window) : (win.waiting.map (·.val)).getD 0 < 8 := by
  cases win.waiting with
  | none => decide
  | some n => exact n.isLt

theorem State.OrtLaw.toNat_windowWaitWords_w2 (h : s.OrtLaw) (w : WindowId) :
    (s.windowWaitWords w).w2.toNat = ((s.window w).change.map (·.slot.val)).getD 0
      + 16 * (s.window w).waiting.isSome.toNat + 32 * ((s.window w).waiting.map (·.val)).getD 0
      + 256 * s.refCount w + 32768 * (s.marked w).toNat := by
  have hslot := (s.window w).changeSlot_lt
  have hwaiting := (s.window w).waiter_lt
  have hrefs : s.refCount w ≤ 32 := h.countP_le _
  have hpresent := (s.window w).waiting.isSome.toNat_le
  have hflag := layBit_eq (s.window w).waiting.isSome 4
  have hmarked := (s.marked w).toNat_le
  have hmark := layBit_eq (s.marked w) 15
  rw [State.windowWaitWords, lay_eq (width := 4) hslot, lay_eq (width := 3) hwaiting,
    lay_eq (value := s.refCount w) (width := 6) (by omega), toNat_pack] <;>
    simp only [List.sum_cons, List.sum_nil] <;> omega

/-- Bits 3 to 0 show the slot of the pending change. -/
theorem State.OrtLaw.windowWaitWords_slot (h : s.OrtLaw) (w : WindowId) :
    (s.windowWaitWords w).w2.toNat % 16 = ((s.window w).change.map (·.slot.val)).getD 0 := by
  have hslot := (s.window w).changeSlot_lt
  rw [h.toNat_windowWaitWords_w2]
  omega

/-- Bits 7 to 4 show the waiting master. -/
theorem State.OrtLaw.windowWaitWords_waiting (h : s.OrtLaw) (w : WindowId) :
    (s.windowWaitWords w).w2.toNat / 16 % 16
      = (s.window w).waiting.isSome.toNat + 2 * ((s.window w).waiting.map (·.val)).getD 0 := by
  have hslot := (s.window w).changeSlot_lt
  have hwaiting := (s.window w).waiter_lt
  have hpresent := (s.window w).waiting.isSome.toNat_le
  rw [h.toNat_windowWaitWords_w2]
  omega

/-- Bits 15 to 8 show the references (R10). -/
theorem State.OrtLaw.windowWaitWords_references (h : s.OrtLaw) (w : WindowId) :
    (s.windowWaitWords w).w2.toNat / 256 = s.refCount w + 128 * (s.marked w).toNat := by
  have hslot := (s.window w).changeSlot_lt
  have hwaiting := (s.window w).waiter_lt
  have hpresent := (s.window w).waiting.isSome.toNat_le
  rw [h.toNat_windowWaitWords_w2]
  omega

theorem State.marked_none {w : WindowId} (h : s.current = none) : s.marked w = false := by
  simp only [State.marked, h]

theorem State.marked_some {w : WindowId} {c : CurrentCycle} (h : s.current = some c) :
    s.marked w = (c.window == w) := by
  simp only [State.marked, h]

/-- The mark weighs 128 in the byte of references exactly when the current cycle is the window's (R10). -/
theorem State.marked_weight {c : CurrentCycle} (h : s.current = some c) (w : WindowId) :
    128 * (s.marked w).toNat = if c.window = w then 128 else 0 := by
  rw [State.marked_some h]
  by_cases hm : c.window = w
  · rw [if_pos hm, beq_iff_eq.2 hm]
    rfl
  · rw [if_neg hm, beq_eq_false_iff_ne.2 hm]
    rfl

/-! ## The WINDOW entry pages (R159, Table 12-5) -/

theorem EntryState.code_lt (st : EntryState) : st.code < 4 := by cases st <;> simp [EntryState.code]

theorem EntryState.faultCode_lt (st : EntryState) : st.faultCode < 8 := by
  cases st with
  | reserved | waiting => exact Nat.zero_lt_succ 7
  | expired f => cases f <;> decide

theorem State.windowEntryWords_none {w : WindowId} {n : Nat} (h : (s.ort.filter (·.window == w))[n]? = none) :
    s.windowEntryWords w n = .zero := by
  simp only [State.windowEntryWords, h]

theorem State.windowEntryWords_some {w : WindowId} {n : Nat} {e : OrtEntry}
    (h : (s.ort.filter (·.window == w))[n]? = some e) : s.windowEntryWords w n = e.words := by
  simp only [State.windowEntryWords, h]

section Entry

variable {e : OrtEntry}

theorem OrtEntry.toNat_words_w0 (e : OrtEntry) :
    e.words.w0.toNat = e.master.val + 8 * e.tag.val + 128 * e.slot.val + 2048 * e.state.code + 32768 := by
  have hmaster := e.master.isLt
  have htag := e.tag.isLt
  have hslot := e.slot.isLt
  have hstate := e.state.code_lt
  have hpresent : layBit true 15 = 32768 := rfl
  rw [OrtEntry.words, lay_eq (width := 3) hmaster, lay_eq (width := 4) htag, lay_eq (width := 4) hslot,
    lay_eq (width := 2) hstate, toNat_pack] <;>
    rw [List.sum_cons, List.sum_cons, List.sum_cons, List.sum_cons, List.sum_singleton] <;> omega

theorem OrtEntry.toNat_words_w1 (h : e.unit < Config.units) : e.words.w1.toNat = e.unit := by
  have hunit : e.unit < 2 ^ 12 := h
  rw [OrtEntry.words, lay_eq hunit, toNat_pack] <;> simp only [List.sum_cons, List.sum_nil] <;> omega

/-- The third word shows the deadline of a WAITING entry and the fault of an EXPIRED one. -/
theorem OrtEntry.toNat_words_w2 (h : e.state.deadlineSteps < 256) :
    e.words.w2.toNat = e.state.deadlineSteps + 256 * e.state.faultCode := by
  have hfault := e.state.faultCode_lt
  rw [OrtEntry.words, lay_eq (width := 8) h, lay_eq (width := 3) hfault, toNat_pack] <;>
    simp only [List.sum_cons, List.sum_nil] <;> omega

/-- A deadline within its limit is shown in steps of 16 us, rounded up (R159). -/
theorem EntryState.deadlineSteps_waiting {d : Nat} (h : 1 ≤ d) :
    (EntryState.waiting d).deadlineSteps = (d + 63) / 64 := by
  simp only [EntryState.deadlineSteps, Config.ticksPerReplyStep]
  omega

theorem OrtEntry.words_w2_reserved (h : e.state = .reserved) : e.words.w2 = 0 := by
  simp only [OrtEntry.words, h]
  decide

theorem OrtEntry.toNat_words_w2_waiting {d : Nat} (h : e.state = .waiting d) (h1 : 1 ≤ d)
    (hle : d ≤ 255 * Config.ticksPerReplyStep) : e.words.w2.toNat = (d + 63) / 64 := by
  have hsteps : e.state.deadlineSteps = (d + 63) / 64 := by rw [h, EntryState.deadlineSteps_waiting h1]
  have hd : d ≤ 255 * 64 := hle
  rw [OrtEntry.toNat_words_w2 (by omega), hsteps, h]
  rfl

theorem OrtEntry.toNat_words_w2_expired {f : FaultStatus} (h : e.state = .expired f) :
    e.words.w2.toNat = 256 * (if f = .silent then 4 else 7) := by
  have hsteps : e.state.deadlineSteps = 0 := by rw [h]; rfl
  rw [OrtEntry.toNat_words_w2 (by omega), hsteps, h]
  cases f <;> rfl

end Entry

/-! ## The SLOT, MASTER and ATTENTION pages (R160, Table 12-5) -/

theorem State.toNat_slotPageWords_w0 (s : State) (k : SlotId) :
    (s.slotPageWords k).w0.toNat = (if (s.slot k).present then 1 else 0) + 2 * (s.slot k).state.code
      + (if (s.slot k).mode = .selfDecoding then 8 else 0) := by
  have hstate := (s.slot k).state.code_lt
  have hpresent : layBit (s.slot k).present 0 = if (s.slot k).present then 1 else 0 := rfl
  have hpresent_le := layBit_le (s.slot k).present 0
  have hmode : layBit (modeBit (s.slot k).mode) 3 = if (s.slot k).mode = .selfDecoding then 8 else 0 := by
    cases (s.slot k).mode <;> rfl
  have hmode_le := layBit_le (modeBit (s.slot k).mode) 3
  rw [State.slotPageWords, lay_eq (width := 2) hstate, ← hpresent, ← hmode, toNat_pack] <;>
    simp only [List.sum_cons, List.sum_nil] <;> omega

theorem State.SlotLaw.toNat_slotPageWords_w1 (h : s.SlotLaw) (k : SlotId) :
    (s.slotPageWords k).w1.toNat = (s.slot k).ackLimit + 256 * (s.slot k).replyLimit := by
  obtain ⟨⟨-, hack⟩, -, hreply⟩ := h.limits k
  rw [State.slotPageWords, lay_eq (width := 8) (by omega), lay_eq (width := 8) (by omega), toNat_pack] <;>
    simp only [List.sum_cons, List.sum_nil] <;> omega

theorem State.toNat_masterPageWords_w0 (s : State) (k : MasterId) :
    (s.masterPageWords k).w0.toNat
      = (if (s.master k).enabled then 1 else 0) + (if (s.master k).supervisor then 2 else 0) := by
  rw [State.masterPageWords]
  cases (s.master k).enabled <;> cases (s.master k).supervisor <;> rfl

theorem ReasonRecord.Sound.word_unraised {r : ReasonRecord} (h : r.Sound) (hr : r.raised = false) : r.word = 0 := by
  obtain ⟨hsubject, hcount, -⟩ := h
  have hnone : r.subject = none := by simpa [hr] using hsubject
  have hzero : r.count = 0 := by simpa [hr] using hcount
  simp only [ReasonRecord.word, hr, hnone, hzero]
  decide

theorem ReasonRecord.Sound.toNat_word_subject {r : ReasonRecord} (h : r.Sound) {n : Nat} (hn : n < 64)
    (hs : r.subject = some n) : r.word.toNat = r.count + 256 * n + 16384 + 32768 := by
  obtain ⟨hsubject, -, hcount⟩ := h
  have hraised : r.raised = true := by rw [← hsubject, hs]; rfl
  have hle : r.count ≤ 255 := hcount
  have hsome : layBit true 14 = 16384 := rfl
  have hflag : layBit true 15 = 32768 := rfl
  rw [ReasonRecord.word, hs, hraised, Option.getD_some, Option.isSome_some, lay_eq (width := 8) (by omega),
    lay_eq (width := 6) hn, toNat_pack] <;>
    rw [List.sum_cons, List.sum_cons, List.sum_cons, List.sum_singleton] <;> omega

theorem toNat_selectionWord (n : Fin 8) : (wordOf (selectionCode (some n))).toNat = n.val + 2 :=
  toNat_wordOf (by simp only [selectionCode]; omega)

/-! ## The whole command -/

/-- Settles O54: the operands name a record or a page, whose fields the laws of the device keep within their bits, so
that each word is the sum of its fields. -/
theorem inspectOutcome : Obligations.InspectOutcome := by
  rintro s m rest cmd htake hcode hlaws _ _ _ rfl rfl rfl
  have ask {o : InspectOperand} (ho : inspectOperand cmd.words = some o) :
      exec .inspect s = .next (s.takeEnds m rest .done (s.inspectWords o)) := htake.inspect hcode ho
  refine ⟨fun hout => ?_, fun w hk hn hp => ?_, fun w hk hn hp => ?_, fun w n hk hn hp hle => ?_, fun k hk hn hp => ?_,
    fun k hk hn hp => ?_, fun hk hp => ?_⟩
  · refine htake.inspect_badOperand hcode ?_
    obtain hk | hk | ⟨hk, hout⟩ | ⟨hk, hout⟩ | ⟨hk, hout⟩ | ⟨hk, hpage⟩ := hout
    · exact inspectOperand_unknown (.inl hk)
    · exact inspectOperand_unknown (.inr hk)
    · exact inspectOperand_window_out hk hout
    · exact inspectOperand_slot_out hk hout
    · exact inspectOperand_master_out hk hout
    · exact inspectOperand_attention_out hk hpage
  · have hfits := hlaws.window_fits w
    refine ⟨_, ask (inspectOperand_windowRecord hk hn hp), fun state hst => ?_, hfits.toNat_windowRecordWords_w1,
      hfits.toNat_windowRecordWords_w2, toNat_setsWord _ _, optionalUnitWord_eq hfits.target⟩
    rw [← WinState.code_of_mem hst]
    exact toNat_windowRecordWords_w0 _
  · have hslot := hlaws.ort.windowWaitWords_slot w
    have hwaiting := hlaws.ort.windowWaitWords_waiting w
    refine ⟨_, ask (inspectOperand_windowWait hk hn hp), fun c hc => ?_, fun hc => ?_, fun n hw => ?_, fun hw => ?_, ?_,
      rfl⟩
    · have hin := (rangeOk_iff _ _ _).1 ((hlaws.range w).2 c hc)
      obtain ⟨hbase, hlength, htarget⟩ := State.windowWaitWords_change hc hin
      rw [hc] at hslot
      exact ⟨hbase, hlength, hslot, htarget⟩
    · obtain ⟨hbase, hlength, htarget⟩ := State.windowWaitWords_noChange hc
      rw [hc] at hslot
      exact ⟨hbase, hlength, hslot, htarget⟩
    · rwa [hw] at hwaiting
    · rwa [hw] at hwaiting
    · refine (hlaws.ort.windowWaitWords_references w).trans (congrArg _ ?_)
      cases hc : s.current with
      | none => rw [State.marked_none hc]; rfl
      | some c => exact State.marked_weight hc w
  · refine ⟨_, ask (inspectOperand_windowEntry hk hn hp hle), fun hnone => State.windowEntryWords_none hnone,
      fun e he => ?_⟩
    have hmem : e ∈ s.ort := (List.mem_filter.1 (List.mem_of_getElem? he)).1
    obtain ⟨-, -, -, -, hunit⟩ := hlaws.reference.entry e hmem
    rw [State.inspectWords, State.windowEntryWords_some he]
    refine ⟨?_, OrtEntry.toNat_words_w1 hunit, OrtEntry.words_w2_reserved, fun d hd h1 => ?_,
      fun f => OrtEntry.toNat_words_w2_expired, rfl, rfl⟩
    · rw [OrtEntry.toNat_words_w0]
      cases e.state <;> rfl
    · exact OrtEntry.toNat_words_w2_waiting hd h1 (hlaws.clock.2 e hmem d hd)
  · refine ⟨_, ask (inspectOperand_slot hk hn hp), fun state hst => ?_, hlaws.slots.toNat_slotPageWords_w1 k,
      toNat_countWindows _, toNat_countWindows _, hlaws.ort.toNat_countP _⟩
    rw [← SlotState.code_of_mem hst]
    exact s.toNat_slotPageWords_w0 k
  · exact ⟨_, ask (inspectOperand_master hk hn hp), s.toNat_masterPageWords_w0 k, hlaws.ort.toNat_countP _,
      toNat_countWindows _, rfl, rfl⟩
  · have reads (r : Reason) : ((s.attention.get r).raised = false → (s.attention.get r).word = 0)
        ∧ ∀ n, n < 64 → (s.attention.get r).subject = some n →
          (s.attention.get r).word.toNat = (s.attention.get r).count + 256 * n + 16384 + 32768 :=
      ⟨(hlaws.attention r).word_unraised, fun _ hn hs => (hlaws.attention r).toNat_word_subject hn hs⟩
    refine ⟨_, ask (inspectOperand_attention hk hp), ?_, fun hsel => ?_, fun n hsel => ?_, rfl⟩
    · simp only [List.forall_mem_cons, List.not_mem_nil, false_imp_iff, implies_true, and_true]
      exact ⟨reads .suspended, reads .slotLost, reads .orphanReply⟩
    · simp only [State.inspectWords, State.attentionPageWords, hsel]
      rfl
    · simp only [State.inspectWords, State.attentionPageWords, hsel]
      exact toNat_selectionWord n

end Sys2Proof.Machine
end

section
/-!
PROOFS. RESOLVE: its operands, its take, and the outcome of the address phase that it asks about (O55).
-/
namespace Sys2Proof.Machine

variable {s : State} {m : MasterId} {rest : List MasterId} {cmd : Captured}

/-! ## The operands (R161, R166, Table 12-3) -/

section Operands

variable {ws : Words}

theorem operandSpace_none {code : Nat} (h : code = 0 ∨ code = 3) : operandSpace code = none := by
  obtain rfl | rfl := h <;> rfl

theorem operandSpace_some {code : Nat} {sp : Space} (hmem : sp = .mem → code = 1) (hio : sp = .io → code = 2) :
    operandSpace code = some sp := by
  cases sp with
  | mem => rw [hmem rfl]; rfl
  | io => rw [hio rfl]; rfl

theorem resolveKind_none {code : Nat} (h : code = 0 ∨ code = 3) : resolveKind code = none := by
  obtain rfl | rfl := h <;> rfl

theorem resolveKind_some {code : Nat} {kind : CycleKind} (h : kind = .read ∧ code = 1 ∨ kind = .write 0 ∧ code = 2) :
    resolveKind code = some (isWrite kind) := by
  obtain ⟨rfl, rfl⟩ | ⟨rfl, rfl⟩ := h <;> rfl

theorem resolveOperands_none
    (h : operandSpace (ws.w0.toNat % 4) = none ∨ resolveKind (ws.w0.toNat / 16 % 4) = none
      ∨ 8 ≤ ws.w0.toNat / 256 % 16 ∨ 4096 ≤ ws.w1.toNat) : resolveOperands ws = none := by
  unfold resolveOperands
  split
  · next space write master hspace hkind hmaster =>
    rw [fieldOf_low] at hspace
    obtain hnone | hnone | habove | hout := h
    · cases hspace.symm.trans hnone
    · cases hkind.symm.trans hnone
    · cases hmaster.symm.trans (indexOf_eq_none habove)
    · exact if_neg (Nat.not_lt.2 hout)
  · rfl

theorem resolveOperands_some {sp : Space} {write : Bool} {n : MasterId}
    (hspace : operandSpace (ws.w0.toNat % 4) = some sp) (hkind : resolveKind (ws.w0.toNat / 16 % 4) = some write)
    (hmaster : ws.w0.toNat / 256 % 16 = n.val) (hunit : ws.w1.toNat < 4096) :
    resolveOperands ws = some ⟨sp, write, n, ws.w1.toNat⟩ := by
  have hspace' : operandSpace (fieldOf ws.w0 0 2) = some sp := (congrArg operandSpace (fieldOf_low ws.w0 2)).trans hspace
  have hkind' : resolveKind (fieldOf ws.w0 4 2) = some write := hkind
  have hmaster' : indexOf 8 (fieldOf ws.w0 8 4) = some n := indexOf_eq_some hmaster
  simp only [resolveOperands, hspace', hkind', hmaster']
  exact if_pos hunit

end Operands

/-! ## The take (R110, R161) -/

theorem exec_resolve (s : State) : exec .resolve s = s.take (isCommand .resolve) resolveEffect := rfl

theorem State.taking_verdict (s : State) (m : MasterId) (rest : List MasterId) (n : MasterId) (sp : Space) (unit : Nat)
    (write : Bool) : (s.taking m rest).verdict n sp unit write = s.verdict n sp unit write := rfl

theorem State.taking_resolveWords (s : State) (m : MasterId) (rest : List MasterId) (v : Verdict) (unit : Nat) :
    (s.taking m rest).resolveWords v unit = s.resolveWords v unit := rfl

theorem State.Takes.resolve_badOperand (h : s.Takes m rest cmd) (hcode : cmd.code = Command.resolve.code)
    (ho : resolveOperands cmd.words = none) :
    exec .resolve s = .next (s.takeEnds m rest .badOperand ⟨0, 0, 0, 0, 0⟩) := by
  simp only [exec_resolve, h.take_command hcode, resolveEffect, ho, State.taking_refuse]

theorem State.Takes.resolve {o : ResolveOperands} (h : s.Takes m rest cmd) (hcode : cmd.code = Command.resolve.code)
    (ho : resolveOperands cmd.words = some o) :
    exec .resolve s = .next
      (s.takeEnds m rest .done (s.resolveWords (s.verdict o.master o.space o.unit o.isWrite) o.unit)) := by
  simp only [exec_resolve, h.take_command hcode, resolveEffect, ho, State.taking_verdict, State.taking_resolveWords,
    State.taking_done]

/-! ## The verdict (R24, R26 to R29, R33) -/

section Verdict

variable {n : MasterId} {sp : Space} {unit : Nat} {w : WindowId}

theorem State.verdict_disabled (he : (s.master n).enabled = false) (sp : Space) (unit : Nat) (write : Bool) :
    s.verdict n sp unit write = .disabled :=
  if_pos he

theorem State.verdict_unmapped (he : (s.master n).enabled = true) (h : ∀ w, (s.window w).covers sp unit = false)
    (write : Bool) : s.verdict n sp unit write = .unmapped := by
  simp [State.verdict, he, State.topWindow_none h]

/-- Check 3: the state of the top window answers (R27). -/
theorem State.IsTop.verdict_byState (h : s.IsTop sp unit w) (he : (s.master n).enabled = true) {status : Status}
    (hst : stateAnswer (s.window w).state = some status) (write : Bool) :
    s.verdict n sp unit write = .byState w status := by
  simp [State.verdict, he, h.topWindow, hst]

/-- Checks 4 and 5 at an ACTIVE top window (R28, R29). -/
theorem State.IsTop.verdict_active (h : s.IsTop sp unit w) (he : (s.master n).enabled = true)
    (ha : (s.window w).state = .active) (write : Bool) :
    s.verdict n sp unit write
      = if (s.window w).admits n write then if w = 0 then .port else .select w else .noRight w := by
  simp [State.verdict, he, h.topWindow, ha, stateAnswer]

theorem State.IsTop.verdict_noRight (h : s.IsTop sp unit w) (he : (s.master n).enabled = true)
    (ha : (s.window w).state = .active) {kind : CycleKind} (hr : ¬ (s.window w).allows n kind) :
    s.verdict n sp unit (isWrite kind) = .noRight w :=
  (h.verdict_active he ha _).trans (if_neg (mt (Window.admits_iff _ n kind).1 hr))

theorem State.IsTop.verdict_allowed (h : s.IsTop sp unit w) (he : (s.master n).enabled = true)
    (ha : (s.window w).state = .active) {kind : CycleKind} (hr : (s.window w).allows n kind) :
    s.verdict n sp unit (isWrite kind) = if w = 0 then .port else .select w :=
  (h.verdict_active he ha _).trans (if_pos ((Window.admits_iff _ n kind).2 hr))

end Verdict

/-! ## The result words (R161, R167, Table 12-4) -/

/-- A field with its presence in bit 15. -/
theorem pack_present {value width : Nat} (h : value < 2 ^ width) :
    pack [lay value 0 width, layBit true 15] = BitVec.ofNat 16 (value + 32768) := by
  rw [lay_eq h, pack, ← List.sum_eq_foldr, List.sum_cons, List.sum_singleton, Nat.pow_zero, Nat.mul_one]
  rfl

theorem resolveWindowWord_some (w : WindowId) : resolveWindowWord (some w) = BitVec.ofNat 16 (w.val + 32768) :=
  pack_present w.isLt

theorem State.resolveLayerWord_some (s : State) (w : WindowId) :
    s.resolveLayerWord (some w) = BitVec.ofNat 16 ((s.window w).layer.val + 32768) :=
  pack_present (s.window w).layer.isLt

theorem State.resolveSlotWord_some (s : State) (w : WindowId) :
    s.resolveSlotWord (some w) = BitVec.ofNat 16 ((s.window w).slot.val
      + (if (s.slot (s.window w).slot).mode = .selfDecoding then 16 else 0) + 32768) := by
  have hmode : layBit (modeBit (s.slot (s.window w).slot).mode) 4
      = if (s.slot (s.window w).slot).mode = .selfDecoding then 16 else 0 := by
    cases (s.slot (s.window w).slot).mode <;> rfl
  have hslot := lay_eq (width := 4) (s.window w).slot.isLt 0
  rw [State.resolveSlotWord, hmode, hslot, pack, ← List.sum_eq_foldr, List.sum_cons, List.sum_cons, List.sum_singleton,
    Nat.pow_zero, Nat.mul_one, ← Nat.add_assoc]
  rfl

/-- A window in service shows its card a unit of the space (R2, R3). -/
theorem State.RangeLaw.renumber_le {w : WindowId} {sp : Space} {unit : Nat} (hr : s.RangeLaw)
    (ha : (s.window w).state = .active) (hc : (s.window w).covers sp unit = true) :
    (s.window w).renumber unit ≤ 4095 := by
  have hin := (rangeOk_iff _ _ _).1 ((hr w).1 (by simp [ha]))
  have hsum := hin.sumIn
  obtain ⟨-, hbase, hunit⟩ : (s.window w).space = sp ∧ (s.window w).base ≤ unit
      ∧ unit < (s.window w).base + (s.window w).length := by
    simpa [Window.covers, Window.inPending, ha, inRange] using hc
  unfold Window.renumber
  cases htarget : (s.window w).target with
  | none => dsimp only; omega
  | some n =>
    obtain ⟨-, hfits⟩ := hin.targetIn n htarget
    dsimp only
    omega

/-- An outcome that reports a window and selects no slot (R161). -/
theorem State.resolveWords_unselected {v : Verdict} {w : WindowId} (hw : v.window = some w) (hs : v.selected = none)
    (unit : Nat) :
    s.resolveWords v unit = ⟨wordOf v.outcomeCode, BitVec.ofNat 16 (w.val + 32768), 0, 0,
      BitVec.ofNat 16 ((s.window w).layer.val + 32768)⟩ := by
  simp only [State.resolveWords, hw, hs, resolveWindowWord_some, State.resolveLayerWord_some]
  rfl

/-- SELECTED: the slot, its mode and the LOF value are reported too (R161). -/
theorem State.resolveWords_select {w : WindowId} {unit : Nat} (hlof : (s.window w).renumber unit ≤ 4095) :
    s.resolveWords (.select w) unit = ⟨9, BitVec.ofNat 16 (w.val + 32768),
      BitVec.ofNat 16 ((s.window w).slot.val
        + (if (s.slot (s.window w).slot).mode = .selfDecoding then 16 else 0) + 32768),
      targetWord (some ((s.window w).renumber unit)), BitVec.ofNat 16 ((s.window w).layer.val + 32768)⟩ := by
  have hword : optionalUnitWord (some ((s.window w).renumber unit)) = targetWord (some ((s.window w).renumber unit)) :=
    optionalUnitWord_eq fun n hn => Option.some.inj hn ▸ hlof
  simp only [State.resolveWords, Verdict.window, Verdict.selected, Option.map_some, resolveWindowWord_some,
    State.resolveSlotWord_some, State.resolveLayerWord_some, hword]
  rfl

/-! ## The whole command -/

/-- Settles O55: the operands name a cycle, the checks of its address phase give a verdict, and the verdict its
words. -/
theorem resolveOutcome : Obligations.ResolveOutcome := by
  rintro s m rest cmd htake hcode hrange _ _ _ _ rfl rfl rfl rfl
  refine ⟨fun hout => ?_, fun sp kind n hmem hio hkind hn hunit => ?_⟩
  · refine htake.resolve_badOperand hcode (resolveOperands_none ?_)
    obtain hsp | hsp | hk | hk | hn | hunit := hout
    · exact .inl (operandSpace_none (.inl hsp))
    · exact .inl (operandSpace_none (.inr hsp))
    · exact .inr (.inl (resolveKind_none (.inl hk)))
    · exact .inr (.inl (resolveKind_none (.inr hk)))
    · exact .inr (.inr (.inl hn))
    · exact .inr (.inr (.inr hunit))
  have hexec := htake.resolve hcode
    (resolveOperands_some (operandSpace_some hmem hio) (resolveKind_some hkind) hn hunit)
  dsimp only at hexec
  refine ⟨fun hdisabled => ?_, fun he => ⟨fun hnone => ?_, ?_⟩⟩
  · rw [hexec, State.verdict_disabled hdisabled]
    rfl
  · rw [hexec, State.verdict_unmapped he hnone]
    rfl
  rintro w htop _ _ rfl rfl
  have byState (status : Status) (hst : stateAnswer (s.window w).state = some status) :
      exec .resolve s = .next (s.takeEnds m rest .done ⟨wordOf (statusCode status), BitVec.ofNat 16 (w.val + 32768),
        0, 0, BitVec.ofNat 16 ((s.window w).layer.val + 32768)⟩) := by
    rw [hexec, htop.verdict_byState he hst, State.resolveWords_unselected rfl rfl]
    rfl
  refine ⟨fun hs => byState .silent (by rw [hs]; rfl), fun hs => byState .retry (by rw [hs]; rfl),
    fun hs => byState .withdrawn (by rw [hs]; rfl), fun hs hr => ?_, fun hs hr hw => ?_, fun hs hr hw => ?_⟩
  · rw [hexec, htop.verdict_noRight he hs hr, State.resolveWords_unselected rfl rfl]
    rfl
  · subst hw
    rw [hexec, htop.verdict_allowed he hs hr, if_pos rfl, State.resolveWords_unselected rfl rfl]
    rfl
  · rw [hexec, htop.verdict_allowed he hs hr, if_neg hw,
      State.resolveWords_select (hrange.renumber_le hs htop.covers)]
    rfl

end Sys2Proof.Machine
end

section
/-!
PROOFS. The step on a queue that is not empty (O1).
-/
namespace Sys2Proof.Machine

/-- Settles O1: the queue's front decides the branch of the step, and the other branch has an empty queue. -/
theorem stepRunsFrontCommand : Obligations.StepRunsFrontCommand := by
  intro c rest s hfront
  unfold step
  split
  case h_1 hempty => exact absurd (hfront.symm.trans hempty) (List.cons_ne_nil c rest)
  case h_2 c' rest' hcons =>
    obtain ⟨rfl, rfl⟩ := List.cons.inj (hcons.symm.trans hfront)
    rfl

end Sys2Proof.Machine
end

section
/-!
PROOFS. Right after reset (O3, O4), INIT asserted and released (O5, O6), the part while INIT holds it (O7), and a
presence
return (O9).
-/
namespace Sys2Proof.Machine

variable {s t : State}

/-! ## The start-up contents (Tables 2-3 and 6-1) -/

theorem initWindow_cleared {w : WindowId} (h : 2 ≤ w.val) : initWindow w = .cleared := by
  have h0 : w ≠ 0 := fun e => by simp [e] at h
  have h1 : w ≠ 1 := fun e => by simp [e] at h
  simp [initWindow, h0, h1]

theorem initMaster_other {m : MasterId} (h : m ≠ 0) : initMaster m = ⟨true, false⟩ := by
  simp [initMaster, h]

section Initialise

variable (s)

@[simp] theorem State.window_initialise (w : WindowId) : s.initialise.window w = initWindow w := by
  simp [State.initialise, State.window]

@[simp] theorem State.context_initialise (m : MasterId) : s.initialise.context m = .reset := by
  simp [State.initialise, State.context]

@[simp] theorem State.slot_initialise (k : SlotId) : s.initialise.slot k = (s.slot k).initLimits := by
  simp [State.initialise, State.initRegistry, State.slot]

@[simp] theorem State.master_initialise (m : MasterId) : s.initialise.master m = initMaster m := by
  simp [State.initialise, State.initRegistry, State.master]

variable (prs mode : BitVec 16)

@[simp] theorem State.window_release (w : WindowId) : (s.release prs mode).window w = s.window w := by
  simp [State.release, State.initRegistry, State.window]

@[simp] theorem State.context_release (m : MasterId) : (s.release prs mode).context m = s.context m := by
  simp [State.release, State.initRegistry, State.context]

@[simp] theorem State.slot_release (k : SlotId) : (s.release prs mode).slot k = releasedSlot prs mode k := by
  simp [State.release, State.slot]

@[simp] theorem State.master_release (m : MasterId) : (s.release prs mode).master m = initMaster m := by
  simp [State.release, State.initRegistry, State.master]

theorem State.prsLevel_release (k : SlotId) :
    (s.release prs mode).prsLevel k = (k != 0 && prs.getLsbD k.val) := by
  simp [State.release, State.prsLevel, releasedPins]

theorem State.modeLevel_release (k : SlotId) :
    (s.release prs mode).pins.mode[k] = modeOfLevel (mode.getLsbD k.val) := by
  simp [State.release, releasedPins]

end Initialise

/-! ## Slots at the release (R86, R87, R102) -/

/-- What the release makes of a slot, by whether its card is seated (R86). -/
theorem releasedSlot_eq {prs : BitVec 16} {k : SlotId} {seated : Bool} (h : (k == 0 || prs.getLsbD k.val) = seated)
    (mode : BitVec 16) :
    (releasedSlot prs mode k).present = seated
      ∧ (releasedSlot prs mode k).state = if seated then .online else .absent := by
  subst h
  exact ⟨rfl, rfl⟩

theorem modeOfLevel_selfDecoding (level : Bool) : modeOfLevel level = .selfDecoding ↔ level = true := by
  cases level <;> decide

/-! ## The reset state is INIT released over an empty rack (log 1) -/

theorem State.reset_eq (s : State) :
    ({ State.reset with pending := s.pending } : State) = s.initialise.release 0 0 := by
  have hwindows : State.reset.windows = Vector.ofFn initWindow := by decide
  have hslots : State.reset.slots = Vector.ofFn (releasedSlot 0 0) := by decide
  have hmasters : State.reset.masters = Vector.ofFn initMaster := by decide
  have hcontexts : State.reset.contexts = Vector.ofFn fun _ => Context.reset := by decide
  have hpins : State.reset.pins = releasedPins 0 0 := by decide
  simp only [hwindows, hslots, hmasters, hcontexts, hpins, State.release, State.initialise, State.initRegistry]
  rfl

theorem State.reset_eq_release : State.reset = State.reset.initialise.release 0 0 := State.reset_eq State.reset

theorem State.window_reset (w : WindowId) : State.reset.window w = initWindow w := by
  rw [State.reset_eq_release, State.window_release, State.window_initialise]

theorem State.context_reset (m : MasterId) : State.reset.context m = .reset := by
  rw [State.reset_eq_release, State.context_release, State.context_initialise]

theorem State.slot_reset (k : SlotId) : State.reset.slot k = releasedSlot 0 0 k := by
  rw [State.reset_eq_release, State.slot_release]

theorem State.master_reset (m : MasterId) : State.reset.master m = initMaster m := by
  rw [State.reset_eq_release, State.master_release]

theorem releasedSlot_unseated {k : SlotId} (h : k ≠ 0) : releasedSlot 0 0 k = .empty := by
  simp [releasedSlot, h, SlotRecord.empty, modeOfLevel]

theorem State.freeEntries_reset : State.reset.freeEntries = 62 := by
  simp only [State.freeEntries, State.window_reset]
  decide

/-- Settles O3: the reset state is what INIT and its release leave, record by record. -/
theorem resetContents : Obligations.ResetContents := by
  refine ⟨State.window_reset 0, State.window_reset 1, fun w hw => ?_, rfl, rfl, rfl, rfl, State.slot_reset 0,
    fun k hk => ?_, State.master_reset 0, fun m hm => ?_, rfl, rfl, State.context_reset, rfl, rfl,
    Lines.onlyDrives_idle, Lines.onlyDrives_idle, State.freeEntries_reset⟩
  · exact (State.window_reset w).trans (initWindow_cleared hw)
  · exact (State.slot_reset k).trans (releasedSlot_unseated hk)
  · exact (State.master_reset m).trans (initMaster_other hm)

theorem exec_initRelease (hi : s.pins.init = true) (prs mode : BitVec 16) :
    exec (.initRelease prs mode) s = .next (s.release prs mode) := if_pos hi

/-- Settles O4: the release reads the lines of an empty rack. -/
theorem initAndReleaseIsReset : Obligations.InitAndReleaseIsReset := by
  intro s
  refine ⟨s.initialise, rfl, ?_⟩
  rw [exec_initRelease rfl, State.reset_eq]

/-! ## INIT asserted (R22, R41, R84, R102, R121, R163) -/

/-- With no reason raised no attention line is driven (R157). -/
theorem State.atnAsserted_clear (h : s.attention = .clear) (n : Fin 8) : s.atnAsserted n = false := by
  simp [State.atnAsserted, h, Attention.anyRaised, Attention.clear, ReasonRecord.clear]

/-- Settles O5: each block's records are the start-up ones, and the slots keep what the release will read anew. -/
theorem initAsserted : Obligations.InitAsserted := by
  intro s
  refine ⟨s.initialise, rfl, ⟨s.window_initialise 0, s.window_initialise 1, fun w hw => ?_⟩,
    ⟨rfl, Lines.onlyDrives_idle, Lines.onlyDrives_idle⟩, ⟨rfl, rfl, rfl⟩,
    ⟨fun k => ?_, s.master_initialise 0, fun m hm => ?_, rfl, rfl⟩, ⟨s.context_initialise, rfl⟩,
    ⟨rfl, State.atnAsserted_clear rfl⟩, rfl, rfl⟩
  · exact (s.window_initialise w).trans (initWindow_cleared hw)
  · rw [State.slot_initialise]
    exact ⟨rfl, rfl, rfl, rfl, rfl⟩
  · exact (s.master_initialise m).trans (initMaster_other hm)

/-! ## INIT released (R86, R87, R102) -/

/-- Settles O6: the slots and the pins are read from the lines, masters and settings start anew. -/
theorem initReleased : Obligations.InitReleased := by
  intro s prs mode hi
  have seated {k : SlotId} (hs : (k == 0 || prs.getLsbD k.val) = true) :
      ((s.release prs mode).slot k).present = true ∧ ((s.release prs mode).slot k).state = .online := by
    rw [State.slot_release]
    exact releasedSlot_eq hs mode
  refine ⟨s.release prs mode, exec_initRelease hi prs mode, rfl, seated rfl, fun k _ hs => seated (by rw [hs]; simp),
    fun k hk hs => ?_, fun k => ?_, s.master_release prs mode 0, fun m hm => ?_, rfl, fun k => ⟨fun hk => ?_, ?_⟩⟩
  · rw [State.slot_release]
    exact releasedSlot_eq (by rw [hs]; simpa using hk) mode
  · rw [State.slot_release]
    exact ⟨modeOfLevel_selfDecoding _, rfl, rfl⟩
  · exact (s.master_release prs mode m).trans (initMaster_other hm)
  · rw [State.prsLevel_release, bne_iff_ne.2 hk, Bool.true_and]
  · rw [State.modeLevel_release, State.slot_release]
    rfl

/-! ## The part held by INIT (R86, R169; log 3) -/

/-- A take waits for the release of INIT (log 3). -/
theorem State.take_held (hi : s.pins.init = true) (named : Word → Bool)
    (effect : MasterId → Captured → State → State) : s.take named effect = .next s :=
  State.whileRunning_asserted hi _

theorem exec_takeRow_held (hi : s.pins.init = true) {i : Instr} (h : i ∈ takeRows) : exec i s = .next s := by
  obtain ⟨named, effect, hexec⟩ := exec_takeRow h
  rw [hexec, State.take_held hi]

/-- An edge of a PRS line while INIT is asserted (R86). -/
theorem exec_presenceLoss_held (hi : s.pins.init = true) {k : SlotId} (hk : k ≠ 0) (hp : s.prsLevel k = true) :
    exec (.presenceLoss k) s = .next (s.movePrs k false) :=
  (if_pos ⟨hk, hp⟩).trans (State.whileRunning_asserted (s := s.movePrs k false) hi _)

theorem exec_presenceReturn_held (hi : s.pins.init = true) {k : SlotId} (hk : k ≠ 0) (hp : s.prsLevel k = false)
    (mode : Mode) : exec (.presenceReturn k mode) s = .next ((s.movePrs k true).moveMode k mode) :=
  (if_pos ⟨hk, hp⟩).trans (State.whileRunning_asserted (s := (s.movePrs k true).moveMode k mode) hi _)

/-- An event that INIT holds up, so that it changes nothing: all but INIT, its release and the edges of the PRS lines
(R86, R169; log 3). -/
theorem exec_held (hi : s.pins.init = true) {i : Instr} (hinit : i ≠ .init) (hrelease : ∀ p m, i ≠ .initRelease p m)
    (hloss : ∀ k, i ≠ .presenceLoss k) (hreturn : ∀ k m, i ≠ .presenceReturn k m) : exec i s = .next s := by
  have held (k : Result) : s.whileRunning k = .next s := State.whileRunning_asserted hi k
  cases i with
  | init => exact absurd rfl hinit
  | initRelease prs mode => exact absurd rfl (hrelease prs mode)
  | presenceLoss k => exact absurd rfl (hloss k)
  | presenceReturn k mode => exact absurd rfl (hreturn k mode)
  | strayAcknowledge status => rfl
  | badCommand | claim | resize | move | restack | grant | handover | retire | reinstate | setSlot | slotOnline
  | slotOffline | setMaster | tune | inspect | resolve => exact exec_takeRow_held hi (by decide)
  | addressPhase | go | stagingWrite | attentionClear | occupancyWrite | abandon | properAcknowledge
  | improperAcknowledge | acknowledgeTimerExpiry | deadlineExpiry | replyCycle | mastershipGrant | faultReplyEnd =>
    exact held _

/-- Settles O7: INIT holds up every event but the edges, which move their lines. -/
theorem heldWhileInitAsserted : Obligations.HeldWhileInitAsserted := by
  intro s hi
  refine ⟨fun i => exec_held hi, fun k hk hp => exec_presenceLoss_held hi hk hp, fun k mode hk hp => ?_⟩
  rw [exec_presenceReturn_held hi hk hp, ← hi]
  rfl

/-! ## A card returns (R92) -/

theorem exec_presenceReturn (hi : s.pins.init = false) {k : SlotId} (hk : k ≠ 0) (hp : s.prsLevel k = false)
    (mode : Mode) :
    exec (.presenceReturn k mode) s
      = .next (((s.movePrs k true).moveMode k mode).setSlot k ((s.slot k).returned mode)) :=
  (if_pos ⟨hk, hp⟩).trans (State.whileRunning_released (s := (s.movePrs k true).moveMode k mode) hi _)

/-- Settles O9: the edge moves the two lines of the slot, and the event writes its record. -/
theorem presenceReturn : Obligations.PresenceReturn := by
  intro s k mode hi hk hp
  exact exec_presenceReturn hi hk hp mode

end Sys2Proof.Machine
end

section
/-!
PROOFS. The window that the table reports for a unit (O15), the state check of the window commands (O40), and
CLAIM (O41).
-/
namespace Sys2Proof.Machine

variable {s : State} {m : MasterId} {rest : List MasterId} {cmd : Captured} {w : WindowId}

/-! ## The top window (R16, R17) -/

/-- Where some window covers the unit there is a top one: a covering window is the top one, or another covers the unit
at a layer not below its own, so by R17 above it; and there are four layers to climb. -/
theorem State.OverlapLaw.exists_isTop (h : s.OverlapLaw) {space : Space} {unit : Nat} {w : WindowId}
    (hc : (s.window w).covers space unit = true) : ∃ v, s.IsTop space unit v := by
  by_cases hmax : ∀ v, v ≠ w → (s.window v).covers space unit = true → (s.window v).layer < (s.window w).layer
  · exact ⟨w, hc, hmax⟩
  · simp only [Classical.not_forall] at hmax
    obtain ⟨v, hv, hcv, hle⟩ := hmax
    have hne : (s.window v).layer ≠ (s.window w).layer := h v w hv space unit hcv hc
    have hlt : (s.window w).layer < (s.window v).layer := by omega
    exact h.exists_isTop hcv
termination_by 4 - (s.window w).layer.val

/-- Settles O15: the table reports the one top window, which exists as soon as some window covers the unit. -/
theorem topWindowIsHighest : Obligations.TopWindowIsHighest := by
  intro s space unit hlaw
  have covered {w : WindowId} (hc : (s.window w).covers space unit = true) :
      ∃ v, s.IsTop space unit v ∧ s.topWindow space unit = some v := by
    obtain ⟨v, hv⟩ := hlaw.exists_isTop hc
    exact ⟨v, hv, hv.topWindow⟩
  have hnone : s.topWindow space unit = none ↔ ∀ w, (s.window w).covers space unit = false := by
    refine ⟨fun hnone w => Bool.eq_false_iff.2 fun hc => ?_, State.topWindow_none⟩
    obtain ⟨v, -, hsome⟩ := covered hc
    cases hnone.symm.trans hsome
  refine ⟨fun w => ⟨fun hw => ?_, State.IsTop.topWindow⟩, hnone⟩
  obtain ⟨u, hc⟩ : ∃ u, (s.window u).covers space unit = true := by
    refine Classical.byContradiction fun hno => ?_
    cases hw.symm.trans (hnone.2 fun u => Bool.eq_false_iff.2 fun hc => hno ⟨u, hc⟩)
  obtain ⟨v, hv, hsome⟩ := covered hc
  cases hw.symm.trans hsome
  exact hv

/-! ## The state check of the window commands (R12, R13, R54) -/

/-- A take that its command's own checks refuse ends with their result and writes no table (R111, R113). -/
theorem State.Takes.refused_own {c : Command} {i : Instr} {effect : MasterId → Captured → State → State}
    {code : ResultCode} (h : s.Takes m rest cmd) (hi : exec i s = s.take (isCommand c) effect)
    (hcode : cmd.code = c.code) (ho : effect m cmd (s.taking m rest) = (s.taking m rest).refuse m code) :
    exec i s = .next (s.takeEnds m rest code ⟨0, 0, 0, 0, 0⟩) := by
  rw [hi, h.take_command hcode, ho, State.taking_refuse]

/-- Settles O40: past the common checks, each command's check of the state comes first. -/
theorem windowCommandStates : Obligations.WindowCommandStates := by
  intro s m rest cmd w h hmay
  refine ⟨fun p hp hcode hs => ?_, fun p hp hcode hs => ?_, fun p hp hcode hs => ?_, fun hcode hs => ?_⟩
  · simp only [List.mem_cons, List.not_mem_nil, or_false] at hp
    obtain rfl | rfl | rfl | rfl := hp
    · refine h.refused_own (c := .resize) rfl hcode ((hmay.windowCommand rest _).trans ?_)
      obtain hs | hs := hs <;> simp only [State.taking_window, hs]
    · refine h.refused_own (c := .move) rfl hcode ((hmay.windowCommand rest _).trans ?_)
      obtain hs | hs := hs <;> simp only [State.taking_window, hs]
    · refine h.refused_own (c := .restack) rfl hcode ((hmay.windowCommand rest _).trans ?_)
      obtain hs | hs := hs <;> simp only [State.taking_window, hs]
    · refine h.refused_own (c := .retire) rfl hcode ((hmay.windowCommand rest _).trans ?_)
      obtain hs | hs := hs <;> simp only [State.taking_window, hs]
  · simp only [List.mem_cons, List.not_mem_nil, or_false] at hp
    obtain rfl | rfl := hp
    · refine h.refused_own (c := .grant) rfl hcode ((hmay.windowCommand rest _).trans ?_)
      simp only [State.taking_window, hs]
    · refine h.refused_own (c := .handover) rfl hcode ((hmay.windowCommand rest _).trans ?_)
      simp only [State.taking_window, hs]
  · simp only [List.mem_cons, List.not_mem_nil, or_false] at hp
    obtain rfl | rfl := hp
    · refine h.refused_own (c := .resize) rfl hcode ((hmay.windowCommand rest _).trans ?_)
      simp only [State.taking_window, hs]
    · refine h.refused_own (c := .move) rfl hcode ((hmay.windowCommand rest _).trans ?_)
      simp only [State.taking_window, hs]
  · refine h.refused_own (c := .reinstate) rfl hcode ((hmay.windowCommand rest _).trans ?_)
    cases hw : (s.window w).state with
    | suspended => exact absurd hw hs
    | free => exact absurd hw hmay.notFree
    | active | held | draining => simp only [State.taking_window, hw]

/-! ## CLAIM (R18, R122 to R124) -/

theorem exec_claim (s : State) : exec .claim s = s.take (isCommand .claim) claimEffect := rfl

theorem claimOperands_none {ws : Words}
    (h : operandSpace (ws.w0.toNat % 4) = none ∨ 4 ≤ ws.w0.toNat / 16 % 16 ∨ 16 ≤ ws.w0.toNat / 256 % 32) :
    claimOperands ws = none := by
  unfold claimOperands
  split
  · next space layer slot hspace hlayer hslot =>
    rw [fieldOf_low] at hspace
    obtain hnone | habove | habove := h
    · cases hspace.symm.trans hnone
    · cases hlayer.symm.trans (indexOf_eq_none habove)
    · cases hslot.symm.trans (indexOf_eq_none habove)
  · rfl

/-- The operands of a CLAIM whose space, layer and slot are in range (R122). -/
def Words.claimOf (ws : Words) (sp : Space) (l : Fin 4) (k : SlotId) : ClaimOperands :=
  ⟨sp, l, k, ws.w1.toNat, ws.w2.toNat, readSetOf ws.w3, writeSetOf ws.w3, targetOperand (bitOf ws.w0 15) ws.w4⟩

theorem claimOperands_some {ws : Words} {sp : Space} {l : Fin 4} {k : SlotId}
    (hspace : operandSpace (ws.w0.toNat % 4) = some sp) (hlayer : ws.w0.toNat / 16 % 16 = l.val)
    (hslot : ws.w0.toNat / 256 % 32 = k.val) : claimOperands ws = some (ws.claimOf sp l k) := by
  have hspace' : operandSpace (fieldOf ws.w0 0 2) = some sp := (congrArg operandSpace (fieldOf_low ws.w0 2)).trans
      hspace
  have hlayer' : indexOf 4 (fieldOf ws.w0 4 4) = some l := indexOf_eq_some hlayer
  have hslot' : indexOf 16 (fieldOf ws.w0 8 5) = some k := indexOf_eq_some hslot
  simp only [claimOperands, hspace', hlayer', hslot', Words.claimOf]

theorem State.Takes.claim_badOperand (h : s.Takes m rest cmd) (hcode : cmd.code = Command.claim.code)
    (ho : claimOperands cmd.words = none) :
    exec .claim s = .next (s.takeEnds m rest .badOperand ⟨0, 0, 0, 0, 0⟩) := by
  simp only [exec_claim, h.take_command hcode, claimEffect, ho, State.taking_refuse]

/-- CLAIM with its operands read: range, slot, overlap and room, then the new window (R123, R124). -/
theorem State.Takes.claim {o : ClaimOperands} (h : s.Takes m rest cmd) (hcode : cmd.code = Command.claim.code)
    (ho : claimOperands cmd.words = some o) :
    exec .claim s = .next
      (if !rangeOk o.base o.length o.target then s.takeEnds m rest .badRange ⟨0, 0, 0, 0, 0⟩
      else if (s.slot o.slot).state ≠ .online then s.takeEnds m rest .badSlot ⟨0, 0, 0, 0, 0⟩
      else if s.overlaps none o.space o.layer o.base o.length then s.takeEnds m rest .overlap ⟨0, 0, 0, 0, 0⟩
      else match s.lowestFree with
        | none => s.takeEnds m rest .tableFull ⟨0, 0, 0, 0, 0⟩
        | some w => (s.setWindow w (claimedWindow m o)).takeEnds m rest .done (.one (wordOf w.val))) := by
  simp only [exec_claim, h.take_command hcode, claimEffect, ho, State.taking_slot, State.taking_overlaps,
    State.taking_lowestFree, State.taking_refuse, State.taking_setWindow_done] <;> rfl

/-- The table is full when every entry but entry 0 is taken (R18). -/
theorem State.lowestFree_none (h : ∀ w, w ≠ 0 → (s.window w).state ≠ .free) : s.lowestFree = none := by
  simp only [State.lowestFree, List.find?_eq_none, List.mem_finRange, Bool.and_eq_true, bne_iff_ne, beq_iff_eq,
    not_and, true_imp_iff]
  exact h

/-- The entry that a CLAIM is given is the FREE one with the lowest id (R18). -/
theorem State.lowestFree_some (h0 : w ≠ 0) (hw : (s.window w).state = .free)
    (hleast : ∀ v, v ≠ 0 → v < w → (s.window v).state ≠ .free) : s.lowestFree = some w := by
  rw [State.lowestFree, List.find?_eq_some_iff_getElem]
  refine ⟨by simp [h0, hw], w.val, by simp, by simp, fun j hj => ?_⟩
  simp only [List.getElem_finRange, Fin.cast_mk, Bool.not_eq_true', Bool.and_eq_false_imp, bne_iff_ne]
  exact fun hj0 => beq_eq_false_iff_ne.2 (hleast _ hj0 hj)

/-- Settles O41: the checks in their order, then the lowest FREE entry. -/
theorem claimOutcome : Obligations.ClaimOutcome := by
  rintro s m rest cmd htake hcode hrange _ _ _ rfl rfl rfl target htarget
  refine ⟨fun hout => ?_, fun sp l k hmem hio hl hk => ?_⟩
  · refine htake.claim_badOperand hcode (claimOperands_none ?_)
    obtain hsp | hsp | hl | hk := hout
    · exact .inl (operandSpace_none (.inl hsp))
    · exact .inl (operandSpace_none (.inr hsp))
    · exact .inr (.inl hl)
    · exact .inr (.inr hk)
  have hexec := htake.claim hcode (claimOperands_some (operandSpace_some hmem hio) hl.symm hk.symm)
  have hclaimed : cmd.words.claimOf sp l k = ⟨sp, l, k, cmd.words.w1.toNat, cmd.words.w2.toNat,
      BitVec.ofNat 8 (cmd.words.w3.toNat % 256), BitVec.ofNat 8 (cmd.words.w3.toNat / 256), target⟩ := by
    rw [Words.claimOf, readSetOf_eq, writeSetOf_eq, htarget]
    rfl
  rw [hclaimed] at hexec
  dsimp only at hexec
  refine ⟨fun hout => ?_, fun hin => ⟨fun hoffline => ?_, fun honline => ⟨fun hmeet => ?_, fun hno =>
    ⟨fun hfull => ?_, fun w h0 hw hleast => ?_⟩⟩⟩⟩
  · simp [hexec, rangeOk_eq_false hout]
  · simp [hexec, (rangeOk_iff _ _ _).2 hin, hoffline]
  · simp [hexec, (rangeOk_iff _ _ _).2 hin, honline, (s.overlaps_iff hrange _ _ _ hin.lengthIn.1).2 hmeet]
  · simp [hexec, (rangeOk_iff _ _ _).2 hin, honline, State.overlaps_eq_false hrange hin.lengthIn.1 hno,
      State.lowestFree_none hfull]
  · simp only [hexec, (rangeOk_iff _ _ _).2 hin, honline, State.overlaps_eq_false hrange hin.lengthIn.1 hno,
      State.lowestFree_some h0 hw hleast, ne_eq, not_true_eq_false, Bool.not_true, Bool.false_eq_true, if_false]
    rfl

end Sys2Proof.Machine
end

section
/-!
PROOFS. The Registry commands SET SLOT (O49), SLOT ONLINE (O50), SET MASTER (O52) and TUNE (O53).
-/
namespace Sys2Proof.Machine

variable {s : State} {m : MasterId} {rest : List MasterId} {cmd : Captured}

/-! ## Takes of the Registry commands (R111, R112) -/

/-- A Registry command from a supervisor goes on to its own checks (R112). -/
theorem State.taking_registryCommand (hsup : (s.master m).supervisor = true) (rest : List MasterId) (own : State) :
    (s.taking m rest).registryCommand m own = own := if_pos hsup

/-- A number that a word carries whole (R166). -/
theorem wordOf_eq {x : Word} {n : Nat} (h : x.toNat = n) : wordOf n = x := by
  rw [← h, wordOf, BitVec.ofNat_toNat, BitVec.setWidth_eq]

/-- A command that has written one slot record and is whole. -/
theorem State.taking_setSlot_done (s : State) (m : MasterId) (rest : List MasterId) (k : SlotId) (r : SlotRecord)
    (ws : Words) : ((s.taking m rest).setSlot k r).done m ws = (s.setSlot k r).takeEnds m rest .done ws :=
  (s.setSlot k r).taking_complete m rest .done ws

/-! ## SET SLOT (R93) -/

theorem exec_setSlot (s : State) : exec .setSlot s = s.take (isCommand .setSlot) setSlotEffect := rfl

theorem limitOk_iff (x : Word) : limitOk x = true ↔ 1 ≤ x.toNat ∧ x.toNat ≤ 255 := by
  simp [limitOk]

theorem State.Takes.setSlot_badOperand (h : s.Takes m rest cmd) (hcode : cmd.code = Command.setSlot.code)
    (hsup : (s.master m).supervisor = true)
    (hbad : 16 ≤ cmd.words.w0.toNat ∨ ¬ (limitOk cmd.words.w1 && limitOk cmd.words.w2) = true) :
    exec .setSlot s = .next (s.takeEnds m rest .badOperand ⟨0, 0, 0, 0, 0⟩) := by
  refine h.refused_own (exec_setSlot s) hcode ((State.taking_registryCommand hsup rest _).trans ?_)
  split
  · rfl
  · next k hk =>
    obtain habove | hlimit := hbad
    · cases hk.symm.trans (indexOf_eq_none habove)
    · exact if_neg hlimit

theorem State.Takes.setSlot {k : SlotId} (h : s.Takes m rest cmd) (hcode : cmd.code = Command.setSlot.code)
    (hsup : (s.master m).supervisor = true) (hk : cmd.words.w0.toNat = k.val)
    (hlimits : (limitOk cmd.words.w1 && limitOk cmd.words.w2) = true) :
    exec .setSlot s = .next
      ((s.setSlot k ((s.slot k).withLimits cmd.words.w1.toNat cmd.words.w2.toNat)).takeEnds m rest .done
        ⟨wordOf k.val, cmd.words.w1, cmd.words.w2, 0, 0⟩) := by
  rw [exec_setSlot, h.take_command hcode, setSlotEffect, State.taking_registryCommand hsup]
  simp only [indexOf_eq_some hk, hlimits, if_true, State.taking_slot, State.taking_setSlot_done]

/-- Settles O49: authority, the three operands, then the record. -/
theorem setSlotOutcome : Obligations.SetSlotOutcome := by
  intro s m rest cmd h hcode
  refine ⟨fun hsup => registryCommandAuthority s m rest cmd h hsup (.setSlot, 0x10) (by decide) hcode, fun hsup =>
    ⟨fun hbad => ?_, fun k hk h1 h1' h2 h2' => ?_⟩⟩
  · refine h.setSlot_badOperand hcode hsup (hbad.imp_right fun hbad => ?_)
    rw [Bool.and_eq_true, limitOk_iff, limitOk_iff]
    omega
  · rw [h.setSlot hcode hsup hk (by rw [Bool.and_eq_true, limitOk_iff, limitOk_iff]; omega), wordOf_eq hk]
    rfl

/-! ## SLOT ONLINE (R94) -/

theorem exec_slotOnline (s : State) : exec .slotOnline s = s.take (isCommand .slotOnline) slotOnlineEffect := rfl

/-- SLOT ONLINE with its operand read: the slot's state decides (R94). -/
theorem State.Takes.slotOnline {k : SlotId} (h : s.Takes m rest cmd) (hcode : cmd.code = Command.slotOnline.code)
    (hsup : (s.master m).supervisor = true) (hk : cmd.words.w0.toNat = k.val) :
    exec .slotOnline s = .next
      (match (s.slot k).state with
      | .absent => s.takeEnds m rest .badSlot ⟨0, 0, 0, 0, 0⟩
      | .online => s.takeEnds m rest .done ⟨cmd.words.w0, 2, 0, 0, 0⟩
      | .offline => (s.setSlot k ((s.slot k).withState .online)).takeEnds m rest .done ⟨cmd.words.w0, 2, 0, 0, 0⟩) := by
  have hwords : slotWords k .online 0 = ⟨cmd.words.w0, 2, 0, 0, 0⟩ := by
    rw [slotWords, wordOf_eq hk]
    rfl
  rw [exec_slotOnline, h.take_command hcode, slotOnlineEffect, State.taking_registryCommand hsup]
  simp only [indexOf_eq_some hk, State.taking_slot, State.taking_setSlot_done, State.taking_refuse, State.taking_done,
    hwords] <;> rfl

/-- Settles O50: authority, the operand, then the slot's state. -/
theorem slotOnlineOutcome : Obligations.SlotOnlineOutcome := by
  intro s m rest cmd h hcode
  refine ⟨fun hsup => registryCommandAuthority s m rest cmd h hsup (.slotOnline, 0x11) (by decide) hcode, fun hsup =>
    ⟨fun habove => ?_, fun k hk => ?_⟩⟩
  · refine h.refused_own (exec_slotOnline s) hcode ((State.taking_registryCommand hsup rest _).trans ?_)
    simp only [indexOf_eq_none habove]
  · rw [h.slotOnline hcode hsup hk]
    refine ⟨fun hs => ?_, fun hs => ?_, fun hs => ?_⟩
    · rw [hs]
    · rw [hs]
    · rw [hs]
      rfl

/-! ## SET MASTER (R98, R99) -/

theorem exec_setMaster (s : State) : exec .setMaster s = s.take (isCommand .setMaster) setMasterEffect := rfl

theorem State.hasSupervisor_iff :
    s.hasSupervisor = true ↔ ∃ n, (s.master n).enabled = true ∧ (s.master n).supervisor = true := by
  simp [State.hasSupervisor]

/-- SET MASTER with its operands read: the last-supervisor check, then both fields (R98). -/
theorem State.Takes.setMaster {k : MasterId} {r : MasterRecord} (h : s.Takes m rest cmd)
    (hcode : cmd.code = Command.setMaster.code) (hsup : (s.master m).supervisor = true)
    (hk : cmd.words.w0.toNat = k.val) (hr : r = ⟨cmd.words.w1.getLsbD 0, cmd.words.w1.getLsbD 1⟩) :
    exec .setMaster s = .next
      (if (s.setMaster k r).hasSupervisor then
        ((s.taking m rest).writeMaster k r).done m
          ⟨cmd.words.w0, pack [layBit r.enabled 0, layBit r.supervisor 1], 0, 0, 0⟩
      else s.takeEnds m rest .lastSupervisor ⟨0, 0, 0, 0, 0⟩) := by
  subst hr
  have hlast (r : MasterRecord) : ((s.taking m rest).setMaster k r).hasSupervisor = (s.setMaster k r).hasSupervisor :=
      rfl
  rw [exec_setMaster, h.take_command hcode, setMasterEffect, State.taking_registryCommand hsup]
  simp only [indexOf_eq_some hk, State.taking_refuse, wordOf_eq hk, bitOf, hlast]

/-- The two fields of a master as the low bits of a word (Tables 12-3 and 12-4). -/
theorem pack_masterBits (x : Word) :
    pack [layBit (x.getLsbD 0) 0, layBit (x.getLsbD 1) 1] = BitVec.ofNat 16 (x.toNat % 4) := by
  have h0 : x.getLsbD 0 = decide (x.toNat % 2 = 1) := by simp [BitVec.getLsbD, Nat.testBit_zero]
  have h1 : x.getLsbD 1 = decide (x.toNat / 2 % 2 = 1) := by simp [BitVec.getLsbD, Nat.testBit_succ, Nat.testBit_zero]
  rw [pack, ← List.sum_eq_foldr]
  refine congrArg _ ?_
  simp only [h0, h1, layBit, List.sum_cons, List.sum_nil, decide_eq_true_eq]
  split <;> split <;> omega

/-- A SET MASTER that leaves every context but the issuer's: the master stays enabled, or has no command QUEUED; the
issuer's own is ACTIVE (R99). -/
theorem State.taking_writeMaster_kept {k : MasterId} {r : MasterRecord}
    (hkeep : r.enabled = true ∨ k = m ∨ (s.context k).state ≠ .queued) :
    (s.taking m rest).writeMaster k r = (s.setMaster k r).taking m rest := by
  unfold State.writeMaster
  split
  · rfl
  · next hdisabled =>
    have hs : (((s.taking m rest).setMaster k r).context k).state ≠ .queued := by
      rw [State.setMaster_context]
      obtain hr | rfl | hs := hkeep
      · exact absurd hr hdisabled
      · rw [State.taking_context_self]
        exact nofun
      · by_cases hkm : k = m
        · rw [hkm, State.taking_context_self]
          exact nofun
        · rwa [State.taking_context_ne s rest hkm]
    exact if_neg hs

/-- The contexts of two masters are written apart. -/
theorem State.setContext_comm {n : MasterId} (h : n ≠ m) (c d : Context) (s : State) :
    (s.setContext m c).setContext n d = (s.setContext n d).setContext m c := by
  have hval : m.val ≠ n.val := fun e => h (Fin.ext e.symm)
  simp only [State.setContext, Vector.set_comm c d hval]

/-- A SET MASTER that disables another master whose command is QUEUED: it leaves the queue and completes DISABLED
(R99). -/
theorem State.taking_writeMaster_withdrawn {k : MasterId} {r : MasterRecord} (hr : r.enabled = false) (hkm : k ≠ m)
    (hs : (s.context k).state = .queued) :
    (s.taking m rest).writeMaster k r
      = ((s.setMaster k r).setContext k ((s.context k).endsWith .disabled ⟨0, 0, 0, 0, 0⟩)).taking m
          (rest.filter (· != k)) := by
  have hcontext : ((s.taking m rest).setMaster k r).context k = s.context k := s.taking_context_ne rest hkm
  have hqueued : (((s.taking m rest).setMaster k r).context k).state = .queued := by rwa [hcontext]
  rw [State.writeMaster, if_neg (by simp [hr]), State.withdrawQueued, if_pos hqueued, State.complete, hcontext,
    State.taking, State.taking, State.context_setContext_ne _ _ hkm.symm]
  have hcomm := State.setContext_comm hkm (s.context m).taken ((s.context k).endsWith .disabled ⟨0, 0, 0, 0, 0⟩)
    ({ s.setMaster k r with queue := rest.filter (· != k) } : State)
  exact hcomm

/-- Settles O52: authority, the operand, the last supervisor, then the write, which reaches the context of the master
written only when it is QUEUED and disabled. -/
theorem setMasterOutcome : Obligations.SetMasterOutcome := by
  intro s m rest cmd h hcode
  refine ⟨fun hsup => registryCommandAuthority s m rest cmd h hsup (.setMaster, 0x13) (by decide) hcode, fun hsup =>
    ⟨fun habove => ?_, fun k r hk hr => ?_⟩⟩
  · refine h.refused_own (exec_setMaster s) hcode ((State.taking_registryCommand hsup rest _).trans ?_)
    simp only [indexOf_eq_none habove]
  have hexec := h.setMaster hcode hsup hk hr
  have hword : pack [layBit r.enabled 0, layBit r.supervisor 1] = BitVec.ofNat 16 (cmd.words.w1.toNat % 4) := by
    rw [hr, pack_masterBits]
  rw [hword] at hexec
  refine ⟨fun hnone => ?_, fun hsome => ⟨fun hkeep => ?_, fun hdisabled hkm hs => ?_⟩⟩
  · rw [hexec, if_neg (mt State.hasSupervisor_iff.1 hnone)]
  · rw [hexec, if_pos (State.hasSupervisor_iff.2 hsome), State.taking_writeMaster_kept hkeep, State.taking_done]
  · rw [hexec, if_pos (State.hasSupervisor_iff.2 hsome), State.taking_writeMaster_withdrawn hdisabled hkm hs,
      State.taking_done]

/-! ## TUNE (R100, R101, R157) -/

theorem exec_tune (s : State) : exec .tune s = s.take (isCommand .tune) tuneEffect := rfl

theorem selectionOperand_none {x : Word} (h : 10 ≤ x.toNat) : selectionOperand x = none := by
  obtain ⟨n, hn⟩ : ∃ n, x.toNat = n + 2 := ⟨x.toNat - 2, by omega⟩
  simp only [selectionOperand, hn, indexOf_eq_none (show 8 ≤ n by omega), Option.map_none]

theorem selectionOperand_line {x : Word} {n : Fin 8} (h : x.toNat = n.val + 2) :
    selectionOperand x = some (.set (some n)) := by
  simp only [selectionOperand, h, indexOf_eq_some rfl, Option.map_some]

theorem selectionOperand_some {x : Word} (h : x.toNat ≤ 9) : ∃ sel, selectionOperand x = some sel := by
  by_cases h0 : x.toNat = 0
  · exact ⟨.leave, by simp only [selectionOperand, h0]⟩
  by_cases h1 : x.toNat = 1
  · exact ⟨.set none, by simp only [selectionOperand, h1]⟩
  · exact ⟨_, selectionOperand_line (n := ⟨x.toNat - 2, by omega⟩) (by simp only; omega)⟩

/-- A TUNE's two writes (R100, R101). -/
def State.tuned (s : State) (limit : Nat) (sel : SelectionOperand) : State := (s.tuneStrikes limit).tuneSelection sel

theorem State.tuneStrikes_frame (s : State) (limit : Nat) :
    ∃ windows strikeLimit, s.tuneStrikes limit = { s with windows := windows, strikeLimit := strikeLimit } := by
  unfold State.tuneStrikes
  split
  · exact ⟨s.windows, s.strikeLimit, rfl⟩
  · exact ⟨_, _, rfl⟩

theorem State.tuned_frame (s : State) (limit : Nat) (sel : SelectionOperand) :
    ∃ windows strikeLimit selection, s.tuned limit sel
      = { s with windows := windows, strikeLimit := strikeLimit, selection := selection } := by
  obtain ⟨windows, strikeLimit, heq⟩ := s.tuneStrikes_frame limit
  rw [State.tuned, heq]
  cases sel with
  | leave => exact ⟨windows, strikeLimit, s.selection, rfl⟩
  | set selection => exact ⟨windows, strikeLimit, selection, rfl⟩

/-- A TUNE writes windows, strike limit and selection, so it is apart from the take's own writes. -/
theorem State.taking_tuned (s : State) (m : MasterId) (rest : List MasterId) (limit : Nat) (sel : SelectionOperand) :
    ∃ u : State, u = { s with windows := u.windows, strikeLimit := u.strikeLimit, selection := u.selection }
      ∧ (s.taking m rest).tuned limit sel = u.taking m rest := by
  obtain ⟨windows, strikeLimit, selection, heq⟩ := (s.taking m rest).tuned_frame limit sel
  exact ⟨{ s with windows := windows, strikeLimit := strikeLimit, selection := selection }, rfl, heq⟩

/-- Limit 0 leaves limit and strikes (R100). -/
theorem State.tuned_zero (s : State) (sel : SelectionOperand) :
    (s.tuned 0 sel).windows = s.windows ∧ (s.tuned 0 sel).strikeLimit = s.strikeLimit := by
  cases sel <;> exact ⟨rfl, rfl⟩

/-- Any other limit is written, and every window's strikes are set to 0 (R100). -/
theorem State.tuned_limit {limit : Nat} (h : limit ≠ 0) (s : State) (sel : SelectionOperand) :
    (s.tuned limit sel).strikeLimit = limit ∧ ∀ w, (s.tuned limit sel).window w = (s.window w).unstruck := by
  cases sel <;> simp [State.tuned, State.tuneStrikes, State.tuneSelection, State.window, h]

theorem State.tuned_leave (s : State) (limit : Nat) : (s.tuned limit .leave).selection = s.selection := by
  obtain ⟨windows, strikeLimit, heq⟩ := s.tuneStrikes_frame limit
  rw [State.tuned, heq]
  rfl

theorem State.tuned_set (s : State) (limit : Nat) (sel : Option (Fin 8)) :
    (s.tuned limit (.set sel)).selection = sel := rfl

theorem State.Takes.tune_badOperand (h : s.Takes m rest cmd) (hcode : cmd.code = Command.tune.code)
    (hsup : (s.master m).supervisor = true) (hbad : 16 ≤ cmd.words.w0.toNat ∨ 10 ≤ cmd.words.w1.toNat) :
    exec .tune s = .next (s.takeEnds m rest .badOperand ⟨0, 0, 0, 0, 0⟩) := by
  refine h.refused_own (exec_tune s) hcode ((State.taking_registryCommand hsup rest _).trans ?_)
  split
  · rfl
  · next sel hsel =>
    obtain hlimit | hselection := hbad
    · exact if_neg (by omega)
    · cases hsel.symm.trans (selectionOperand_none hselection)

theorem State.Takes.tune {sel : SelectionOperand} (h : s.Takes m rest cmd) (hcode : cmd.code = Command.tune.code)
    (hsup : (s.master m).supervisor = true) (hsel : selectionOperand cmd.words.w1 = some sel)
    (hlimit : cmd.words.w0.toNat ≤ 15) :
    exec .tune s = .next (((s.taking m rest).tuned cmd.words.w0.toNat sel).done m
      ((s.taking m rest).tuned cmd.words.w0.toNat sel).tuneWords) := by
  rw [exec_tune, h.take_command hcode, tuneEffect, State.taking_registryCommand hsup]
  simp only [hsel, hlimit, if_true]
  rfl

/-- The attention line in force is driven exactly while a reason is raised (R101, R157). -/
theorem State.atnAsserted_iff (s : State) (n : Fin 8) :
    s.atnAsserted n = true ↔ s.selection = some n ∧ (s.attention.suspended.raised = true
      ∨ s.attention.slotLost.raised = true ∨ s.attention.orphanReply.raised = true) := by
  simp [State.atnAsserted, Attention.anyRaised, or_assoc]

theorem State.takeEnds_context_self (s : State) (m : MasterId) (rest : List MasterId) (code : ResultCode) (ws : Words) :
    (s.takeEnds m rest code ws).context m = (s.context m).endsWith code ws := State.context_setContext_self _ m _

theorem State.takeEnds_context_ne {n : MasterId} (h : n ≠ m) (s : State) (rest : List MasterId) (code : ResultCode)
    (ws : Words) : (s.takeEnds m rest code ws).context n = s.context n := State.context_setContext_ne _ _ h

/-- The end of a take after a TUNE's writes. -/
theorem State.takeEnds_frame {u : State}
    (h : u = { s with windows := u.windows, strikeLimit := u.strikeLimit, selection := u.selection }) (m : MasterId)
    (rest : List MasterId) (code : ResultCode) (ws : Words) :
    u.takeEnds m rest code ws = { s with
      windows := (u.takeEnds m rest code ws).windows, strikeLimit := (u.takeEnds m rest code ws).strikeLimit,
      selection := (u.takeEnds m rest code ws).selection, contexts := (u.takeEnds m rest code ws).contexts,
      queue := rest } := by
  obtain ⟨windows, strikeLimit, selection, rfl⟩ : ∃ windows strikeLimit selection,
      u = { s with windows := windows, strikeLimit := strikeLimit, selection := selection } := ⟨_, _, _, h⟩
  rfl

/-- The result words of a TUNE (R100, Tables 12-2 and 12-4). -/
theorem State.tuneWords_eq (s : State) :
    s.tuneWords = ⟨BitVec.ofNat 16 s.strikeLimit, (match s.selection with
      | none => 1
      | some n => BitVec.ofNat 16 (n.val + 2)), 0, 0, 0⟩ := by
  unfold State.tuneWords
  cases s.selection <;> rfl

/-- Settles O53: authority, the two operands, then the two writes, which the take's end leaves standing. -/
theorem tuneOutcome : Obligations.TuneOutcome := by
  intro s m rest cmd h hcode
  refine ⟨fun hsup => registryCommandAuthority s m rest cmd h hsup (.tune, 0x14) (by decide) hcode, fun hsup =>
    ⟨h.tune_badOperand hcode hsup, fun hlimit hselection => ?_⟩⟩
  obtain ⟨sel, hsome⟩ := selectionOperand_some hselection
  obtain ⟨u, hframe, htuned⟩ := s.taking_tuned m rest cmd.words.w0.toNat sel
  have hexec := h.tune hcode hsup hsome hlimit
  rw [htuned, State.taking_done] at hexec
  have hzero (h0 : cmd.words.w0.toNat = 0) : u.windows = s.windows ∧ u.strikeLimit = s.strikeLimit := by
    have hz := (s.taking m rest).tuned_zero sel
    rwa [← h0, htuned] at hz
  have hpositive (h0 : cmd.words.w0.toNat ≠ 0) :
      u.strikeLimit = cmd.words.w0.toNat ∧ ∀ w, u.window w = { s.window w with strikes := 0 } := by
    have hp := (s.taking m rest).tuned_limit h0 sel
    rwa [htuned] at hp
  have hselection (n : Option (Fin 8)) (hset : sel = .set n) : u.selection = n := by
    rw [hset] at htuned
    exact (congrArg State.selection htuned.symm).trans ((s.taking m rest).tuned_set _ n)
  have hattention : (u.takeEnds m rest .done (u.taking m rest).tuneWords).attention = s.attention :=
    (congrArg State.attention hframe :)
  have hcontext : u.contexts = s.contexts := (congrArg State.contexts hframe :)
  refine ⟨_, hexec, ?_, hzero, hpositive, fun h0 => ?_, fun h1 => ?_, fun n hn => ?_, fun n => ?_,
    fun n hn => ?_, ?_⟩
  · exact State.takeEnds_frame hframe m rest .done _
  · obtain rfl : sel = .leave := by simpa [selectionOperand, h0] using hsome.symm
    exact (congrArg State.selection htuned.symm).trans ((s.taking m rest).tuned_leave _)
  · exact hselection none (by simpa [selectionOperand, h1] using hsome.symm)
  · exact hselection (some n) (Option.some.inj (hsome.symm.trans (selectionOperand_line hn)))
  · rw [State.atnAsserted_iff, hattention]
  · rw [State.takeEnds_context_ne hn, State.context, hcontext]
    rfl
  · rw [State.takeEnds_context_self, State.tuneWords_eq, State.context, hcontext]
    rfl

end Sys2Proof.Machine
end

section
/-!
PROOFS. Forced drains: what one does to a window and to the context that waits on it, SLOT OFFLINE (O51) and the drain
of
a presence loss (O12).
-/
namespace Sys2Proof.Machine

variable {s : State} {m n : MasterId} {rest : List MasterId} {cmd : Captured} {k : SlotId} {w : WindowId}

/-! ## One window's share of a forced drain (R90, R148, Table 9-2) -/

/-- The record that a forced drain of slot k makes of a window that is not referenced, or still is. -/
def Window.drainedTo (win : Window) (k : SlotId) (unreferenced : Bool) : Window :=
  match win.state with
  | .free => win
  | .active | .suspended =>
    if win.slot = k then if unreferenced then .cleared else win.forceDrained else win
  | .draining => if win.slot = k then if unreferenced then .cleared else win else win
  | .held =>
    if win.slot = k then if unreferenced then .cleared else win.forceDrained
    else if win.boundFor k then win.released else win

/-- What a forced drain of slot k completes the window's waiting command with, if it ends the wait. -/
def Window.drainEnds (win : Window) (k : SlotId) (w : WindowId) (unreferenced : Bool) : Option (ResultCode × Words) :=
  match win.state with
  | .free | .active | .suspended => none
  | .draining => if win.slot = k ∧ unreferenced then some (.done, retireWords w win) else none
  | .held =>
    if win.slot = k then some (.withdrawn, .one (wordOf w.val))
    else if win.boundFor k then some (.badSlot, .one (wordOf w.val)) else none

/-- The context after the end of its wait, if the wait ends. -/
def Context.ended (c : Context) : Option (ResultCode × Words) → Context
  | none => c
  | some (code, ws) => c.completed code ws

theorem Context.ended_none (c : Context) : c.ended none = c := rfl

theorem Context.ended_some (c : Context) (code : ResultCode) (ws : Words) :
    c.ended (some (code, ws)) = c.endsWith code ws := rfl

theorem Context.endsWith_ended (c : Context) (o : Option (ResultCode × Words)) (code : ResultCode) (ws : Words) :
    (c.ended o).endsWith code ws = c.endsWith code ws := by
  cases o <;> rfl

theorem Window.boundFor_iff (win : Window) (k : SlotId) :
    win.boundFor k = true ↔ ∃ c ∈ win.change, c.slot = k := by
  unfold Window.boundFor
  cases win.change <;> simp

/-- The drain check of a window that a forced drain has made DRAINING, whichever wait it has ended. -/
theorem State.window_forceDrained (s : State) (w : WindowId) (o : Option MasterId) (code : ResultCode) (ws : Words) :
    (((s.setWindow w (s.window w).forceDrained).completeWaiter o code ws).drainCheck w).window w
      = if s.unreferenced w then .cleared else (s.window w).forceDrained := by
  have hunref : ((s.setWindow w (s.window w).forceDrained).completeWaiter o code ws).unreferenced w = s.unreferenced w
      := by
    simp [State.unreferenced, State.refCount, State.marked]
  have hwindow : ((s.setWindow w (s.window w).forceDrained).completeWaiter o code ws).window w
      = (s.window w).forceDrained := by simp
  rw [State.window_drainCheck_draining (by rw [hwindow]; rfl), hunref, hwindow]

theorem State.window_forceDrainOne (s : State) (k : SlotId) (w : WindowId) :
    (State.forceDrainOne k s w).window w = (s.window w).drainedTo k (s.unreferenced w) := by
  have hdrained := s.window_forceDrained w none .none .zero
  rw [State.completeWaiter] at hdrained
  unfold State.forceDrainOne Window.drainedTo
  dsimp only
  cases hs : (s.window w).state with
  | free => rfl
  | active | suspended => exact (apply_ite (State.window · w) _ _ _).trans (by rw [hdrained])
  | draining => exact (apply_ite (State.window · w) _ _ _).trans (by rw [State.window_drainCheck_draining hs])
  | held =>
    refine (apply_ite (State.window · w) _ _ _).trans ?_
    rw [State.window_forceDrained, apply_ite (State.window · w), State.completeWaiter_window,
      State.window_setWindow_self]

/-- The drain check of a DRAINING window at the context that waits on it (R147). -/
theorem State.context_drainCheck_draining (hs : (s.window w).state = .draining) (hn : (s.window w).waiting = some n) :
    (s.drainCheck w).context n = if s.unreferenced w then (s.context n).completed .done (retireWords w (s.window w))
      else s.context n := by
  unfold State.drainCheck
  split
  · simp only [hs]
    rw [State.becomeFree, State.setWindow_context, State.context_completeWaiter, if_pos hn]
  · rfl

/-- The context that waits on a window after that window's share of a forced drain. -/
theorem State.context_forceDrainOne (hn : (s.window w).waiting = some n) (k : SlotId) :
    (State.forceDrainOne k s w).context n = (s.context n).ended ((s.window w).drainEnds k w (s.unreferenced w)) := by
  have hdrained (a : State) : ((a.setWindow w (s.window w).forceDrained).drainCheck w).context n = a.context n :=
    State.context_drainCheck_ne (by simp [Window.forceDrained])
  have hended (code : ResultCode) (ws : Words) (r : Window) :
      ((s.setWindow w r).completeWaiter (s.window w).waiting code ws).context n = (s.context n).completed code ws := by
    rw [State.context_completeWaiter, if_pos hn, State.setWindow_context]
  unfold State.forceDrainOne Window.drainEnds
  dsimp only
  cases hs : (s.window w).state with
  | free => rfl
  | active | suspended => exact (apply_ite (State.context · n) _ _ _).trans ((congrArg (ite _ · _) (hdrained s)).trans
      (ite_self _))
  | draining =>
    dsimp only
    split
    · next hk =>
      rw [State.context_drainCheck_draining hs hn]
      cases s.unreferenced w <;> simp [hk, Context.ended]
    · next hk => simp [hk, Context.ended]
  | held =>
    dsimp only
    split
    · rw [← State.setWindow_completeWaiter]
      exact (hdrained _).trans ((s.context_completeWaiter ..).trans (if_pos hn))
    · split
      · exact hended _ _ _
      · rfl

/-- A forced drain of one window reaches no context but the one that waits on it. -/
theorem State.context_forceDrainOne_ne (hn : (s.window w).waiting ≠ some n) (k : SlotId) :
    (State.forceDrainOne k s w).context n = s.context n := by
  have hdrained (a : State) : ((a.setWindow w (s.window w).forceDrained).drainCheck w).context n = a.context n :=
    State.context_drainCheck_ne (by simp [Window.forceDrained])
  unfold State.forceDrainOne
  dsimp only
  cases hs : (s.window w).state with
  | free => rfl
  | active | suspended => exact (apply_ite (State.context · n) _ _ _).trans (by rw [hdrained, ite_self])
  | draining => exact (apply_ite (State.context · n) _ _ _).trans (by rw [State.context_drainCheck_ne hn, ite_self])
  | held =>
    dsimp only
    split
    · rw [← State.setWindow_completeWaiter, hdrained, State.context_completeWaiter_ne hn]
    · split
      · rw [State.context_completeWaiter_ne hn, State.setWindow_context]
      · rfl

/-! ## The whole forced drain, window by window and context by context -/

theorem State.window_forceDrain_eq (s : State) (k : SlotId) (w : WindowId) :
    (s.forceDrain k).window w = (s.window w).drainedTo k (s.unreferenced w) := by
  rw [State.window_forceDrain, State.window_forceDrainOne]

/-- A forced drain makes no context wait on a window. -/
theorem Window.waiting_drainedTo {win : Window} (h : win.waiting ≠ some n) (k : SlotId) (unreferenced : Bool) :
    (win.drainedTo k unreferenced).waiting ≠ some n := by
  unfold Window.drainedTo
  cases win.state with
  | free => exact h
  | active | suspended =>
    dsimp only
    split
    · cases unreferenced <;> exact nofun
    · exact h
  | draining =>
    dsimp only
    split
    · cases unreferenced
      · exact h
      · exact nofun
    · exact h
  | held =>
    dsimp only
    split
    · cases unreferenced <;> exact nofun
    · split
      · exact nofun
      · exact h

theorem State.window_foldl_forceDrainOne_ne {l : List WindowId} (hw : w ∉ l) (s : State) (k : SlotId) :
    (l.foldl (State.forceDrainOne k) s).window w = s.window w := by
  induction l generalizing s with
  | nil => rfl
  | cons v l ih =>
    exact (ih (List.not_mem_of_not_mem_cons hw) _).trans (s.window_forceDrainOne_ne k (List.ne_of_not_mem_cons hw))

theorem State.unreferenced_foldl_forceDrainOne (l : List WindowId) (s : State) (k : SlotId) (w : WindowId) :
    (l.foldl (State.forceDrainOne k) s).unreferenced w = s.unreferenced w := by
  induction l generalizing s with
  | nil => rfl
  | cons v l ih => exact (ih _).trans (by simp [State.unreferenced, State.refCount, State.marked])

/-- A context that waits on no window of the list is reached by no share of the drain. -/
theorem State.context_foldl_forceDrainOne_ne {l : List WindowId} (h : ∀ v ∈ l, (s.window v).waiting ≠ some n)
    (k : SlotId) : (l.foldl (State.forceDrainOne k) s).context n = s.context n := by
  induction l generalizing s with
  | nil => rfl
  | cons v l ih =>
    refine (ih fun u hu => ?_).trans (State.context_forceDrainOne_ne (h v List.mem_cons_self) k)
    by_cases huv : u = v
    · rw [huv, State.window_forceDrainOne]
      exact Window.waiting_drainedTo (h v List.mem_cons_self) k _
    · rw [s.window_forceDrainOne_ne k huv]
      exact h u (List.mem_cons_of_mem v hu)

theorem State.context_forceDrain_ne (h : ∀ w, (s.window w).waiting ≠ some n) (k : SlotId) :
    (s.forceDrain k).context n = s.context n := State.context_foldl_forceDrainOne_ne (fun v _ => h v) k

/-- A context waits on one window at most, so one share of the drain reaches it. -/
theorem State.context_forceDrain (hn : (s.window w).waiting = some n)
    (hone : ∀ v, (s.window v).waiting = some n → v = w) (k : SlotId) :
    (s.forceDrain k).context n = (s.context n).ended ((s.window w).drainEnds k w (s.unreferenced w)) := by
  obtain ⟨before, after, hlist⟩ := List.append_of_mem (List.mem_finRange w)
  have hnodup := List.nodup_finRange 64
  rw [hlist, List.nodup_append, List.nodup_cons] at hnodup
  obtain ⟨-, ⟨hafter, -⟩, happart⟩ := hnodup
  have hbefore : w ∉ before := fun h => happart w h w List.mem_cons_self rfl
  have hskip (v : WindowId) (hv : v ∉ before) := State.window_foldl_forceDrainOne_ne hv s k
  have hcontext : (before.foldl (State.forceDrainOne k) s).context n = s.context n :=
    State.context_foldl_forceDrainOne_ne (fun v hv hvn => hbefore (hone v hvn ▸ hv)) k
  have hafterwards (v : WindowId) (hv : v ∈ after) :
      ((State.forceDrainOne k (before.foldl (State.forceDrainOne k) s) w).window v).waiting ≠ some n := by
    have hvw : v ≠ w := fun h => hafter (h ▸ hv)
    rw [State.window_forceDrainOne_ne _ k hvw, hskip v fun h => happart v h v (List.mem_cons_of_mem w hv) rfl]
    exact fun hvn => hvw (hone v hvn)
  rw [State.forceDrain, hlist, List.foldl_append, List.foldl_cons,
    State.context_foldl_forceDrainOne_ne hafterwards, State.context_forceDrainOne (by rw [hskip w hbefore]; exact hn),
    hskip w hbefore, State.unreferenced_foldl_forceDrainOne, hcontext]

/-! ## The drain in the words of Table 9-2 -/

theorem Window.forcedDrain_drainedTo (win : Window) (k : SlotId) {unreferenced : Bool} {inFlight : Prop}
    (h : unreferenced = true ↔ ¬ inFlight) : win.ForcedDrain (win.drainedTo k unreferenced) k inFlight where
  free hs := by simp only [Window.drainedTo, hs]
  other hk hchange := by
    have hbound : ¬ win.boundFor k = true := fun hb => by
      obtain ⟨c, hc, hck⟩ := (win.boundFor_iff k).1 hb
      exact hchange c hc hck
    unfold Window.drainedTo
    cases win.state <;> simp only [hk, hbound, if_false, Bool.false_eq_true]
  bound hs hk hchange := by
    simp only [Window.drainedTo, hs, hk, (win.boundFor_iff k).2 hchange, if_false, if_true]
    rfl
  drains hs hk hin := by
    subst hk
    have hun : ¬ unreferenced = true := fun hu => h.1 hu hin
    obtain hs | hs | hs := hs <;> simp only [Window.drainedTo, hs, hun, if_true, if_false, Bool.false_eq_true] <;> rfl
  draining hs hk hin := by
    have hun : ¬ unreferenced = true := fun hu => h.1 hu hin
    simp only [Window.drainedTo, hs, hk, hun, if_true, if_false, Bool.false_eq_true]
  freed hs hk hin := by
    unfold Window.drainedTo
    cases hst : win.state with
    | free => exact absurd hst hs
    | active | suspended | held | draining => simp only [hk, h.2 hin, if_true]

theorem State.forcedDrain_forceDrain (s : State) (k : SlotId) (w : WindowId) :
    (s.window w).ForcedDrain ((s.forceDrain k).window w) k (s.Referenced w) := by
  rw [State.window_forceDrain_eq]
  exact Window.forcedDrain_drainedTo _ k (s.unreferenced_iff w)

/-- References are read from the ORT and the current cycle alone (R10). -/
theorem State.referenced_congr {t : State} (hort : t.ort = s.ort) (hcurrent : t.current = s.current) (w : WindowId) :
    t.Referenced w ↔ s.Referenced w := by
  rw [State.Referenced, hort, hcurrent, State.Referenced]

theorem State.unreferenced_congr {t : State} (hort : t.ort = s.ort) (hcurrent : t.current = s.current) (w : WindowId) :
    t.unreferenced w = s.unreferenced w := by
  simp only [State.unreferenced, State.refCount, State.marked, hort, hcurrent]

/-- R114: two windows never name one context. -/
theorem State.WaitLaw.waits_on_one (h : s.WaitLaw) {v : WindowId} (hv : (s.window v).waiting = some n)
    (hw : (s.window w).waiting = some n) : v = w :=
  Option.some.inj (((h.named v n).1 hv).2.symm.trans ((h.named w n).1 hw).2)

/-- The drain at one context in the words of Table 9-2, for an event that treats the window waited on as its references
after the event say. -/
theorem State.forcedDrainContext {t : State}
    (hends : ∀ w, (s.window w).waiting = some n →
      t.context n = (s.context n).ended ((s.window w).drainEnds k w (t.unreferenced w)))
    (hidle : (∀ w, (s.window w).waiting ≠ some n) → t.context n = s.context n) : s.ForcedDrainContext t k n where
  withdrawn w hn hs hk := by
    rw [hends w hn]
    simp only [Window.drainEnds, hs, hk, if_true, Context.ended_some]
    rfl
  badSlot w hn hs hk hchange := by
    rw [hends w hn]
    simp only [Window.drainEnds, hs, hk, ((s.window w).boundFor_iff k).2 hchange, if_false, if_true, Context.ended_some]
    rfl
  retired w hn hs hk href := by
    rw [hends w hn]
    simp only [Window.drainEnds, hs, hk, (t.unreferenced_iff w).2 href, and_self, if_true, Context.ended_some]
    rfl
  waits w hn hs hwaits := by
    have hun : ¬ ((s.window w).slot = k ∧ t.unreferenced w = true) := fun ⟨hk, hu⟩ =>
      hwaits.elim (· hk) ((t.unreferenced_iff w).1 hu)
    rw [hends w hn]
    simp only [Window.drainEnds, hs, hun, if_false, Context.ended_none]
  other w hn hs hk hchange := by
    have hbound : ¬ (s.window w).boundFor k = true := fun hb => by
      obtain ⟨c, hc, hck⟩ := ((s.window w).boundFor_iff k).1 hb
      exact hchange c hc hck
    rw [hends w hn]
    simp only [Window.drainEnds, hs, hk, hbound, if_false, Bool.false_eq_true, Context.ended_none]
  idle := hidle

/-! ## SLOT OFFLINE (R95, R148) -/

theorem exec_slotOffline (s : State) : exec .slotOffline s = s.take (isCommand .slotOffline) slotOfflineEffect := rfl

/-- SLOT OFFLINE with its operand read: slot 0 is protected, and otherwise the slot's state decides (R95). -/
theorem State.Takes.slotOffline (h : s.Takes m rest cmd) (hcode : cmd.code = Command.slotOffline.code)
    (hsup : (s.master m).supervisor = true) (hk : cmd.words.w0.toNat = k.val) :
    exec .slotOffline s = .next
      (if k = 0 then s.takeEnds m rest .protectedEntry ⟨0, 0, 0, 0, 0⟩
      else match (s.slot k).state with
      | .absent => s.takeEnds m rest .badSlot ⟨0, 0, 0, 0, 0⟩
      | .offline => s.takeEnds m rest .done ⟨cmd.words.w0, 1, 0, 0, 0⟩
      | .online => (((s.taking m rest).setSlot k ((s.slot k).withState .offline)).forceDrain k).done m
          ⟨cmd.words.w0, 1, wordOf (s.drainable k), 0, 0⟩) := by
  have hwords (count : Nat) : slotWords k .offline count = ⟨cmd.words.w0, 1, wordOf count, 0, 0⟩ := by
    rw [slotWords, wordOf_eq hk]
    rfl
  have hdrainable : (s.taking m rest).drainable k = s.drainable k := rfl
  rw [exec_slotOffline, h.take_command hcode, slotOfflineEffect, State.taking_registryCommand hsup]
  simp only [indexOf_eq_some hk, State.taking_slot, State.taking_refuse, State.taking_done, hwords, hdrainable] <;> rfl

/-- The fields that a forced drain leaves. -/
theorem State.forceDrain_frame (s : State) (k : SlotId) :
    ∃ windows contexts, s.forceDrain k = { s with windows := windows, contexts := contexts } := by
  refine ⟨(s.forceDrain k).windows, (s.forceDrain k).contexts, ?_⟩
  rw [← s.forceDrain_current k, ← s.forceDrain_lines k, ← s.forceDrain_shown k, ← s.forceDrain_ort k,
    ← s.forceDrain_faultQueue k, ← s.forceDrain_mastership k, ← s.forceDrain_slots k, ← s.forceDrain_masters k,
    ← s.forceDrain_strikeLimit k, ← s.forceDrain_selection k, ← s.forceDrain_queue k, ← s.forceDrain_attention k,
    ← s.forceDrain_pins k, ← s.forceDrain_pending k]

theorem State.drainable_eq (s : State) (k : SlotId) :
    s.drainable k = (List.finRange 64).countP fun w => (s.window w).slot == k
      && ((s.window w).state == .active || (s.window w).state == .suspended || (s.window w).state == .held) := rfl

/-- The drain's contract with a context reads that context and the windows alone of the state before. -/
theorem State.ForcedDrainContext.of_source {a t : State} (h : a.ForcedDrainContext t k n)
    (hwindows : a.windows = s.windows) (hcontext : a.context n = s.context n) : s.ForcedDrainContext t k n := by
  have hwindow (w : WindowId) : a.window w = s.window w := by rw [State.window, hwindows, State.window]
  obtain ⟨withdrawn, badSlot, retired, waits, other, idle⟩ := h
  simp only [hwindow, hcontext] at withdrawn badSlot retired waits other idle
  exact ⟨withdrawn, badSlot, retired, waits, other, idle⟩

/-- A drain that ends a wait keeps the staging words and the overrun flag, so the same end covers it up (R115). -/
theorem State.endsWith_forceDrain
    (hone : ∀ v w, (s.window v).waiting = some n → (s.window w).waiting = some n → v = w) (k : SlotId)
    (code : ResultCode) (ws : Words) :
    ((s.forceDrain k).context n).endsWith code ws = (s.context n).endsWith code ws := by
  by_cases hn : ∃ w, (s.window w).waiting = some n
  · obtain ⟨w, hn⟩ := hn
    rw [State.context_forceDrain hn (fun v hv => hone v w hv hn) k, Context.endsWith_ended]
  · rw [State.context_forceDrain_ne (fun w hw => hn ⟨w, hw⟩) k]

/-- Settles O51: the checks, then the drain of the windows as the take found them; the taker's own completion covers up
whatever the drain has made of its context. -/
theorem slotOfflineOutcome : Obligations.SlotOfflineOutcome := by
  intro s m rest cmd h hcode hwait
  refine ⟨fun hsup => registryCommandAuthority s m rest cmd h hsup (.slotOffline, 0x12) (by decide) hcode, fun hsup =>
    ⟨fun habove => ?_, fun hzero => ?_, fun k hk0 hk => ⟨fun hs => ?_, fun hs => ?_, fun hs => ?_⟩⟩⟩
  · refine h.refused_own (exec_slotOffline s) hcode ((State.taking_registryCommand hsup rest _).trans ?_)
    simp only [indexOf_eq_none habove]
  · rw [h.slotOffline (k := 0) hcode hsup hzero, if_pos rfl]
  · rw [h.slotOffline hcode hsup hk, if_neg hk0, hs]
  · rw [h.slotOffline hcode hsup hk, if_neg hk0, hs]
  · obtain ⟨a, ha⟩ : ∃ a, a = (s.taking m rest).setSlot k ((s.slot k).withState .offline) := ⟨_, rfl⟩
    have hexec := h.slotOffline hcode hsup hk
    rw [if_neg hk0, hs, ← ha] at hexec
    have hwindows : a.windows = s.windows := (congrArg State.windows ha :)
    have hself : a.context m = (s.context m).taken := by
      rw [ha]
      exact State.taking_context_self s m rest
    have hother (n : MasterId) (hn : n ≠ m) : a.context n = s.context n := by
      rw [ha]
      exact s.taking_context_ne rest hn
    have hone (n : MasterId) (v w : WindowId) (hv : (a.window v).waiting = some n)
        (hw : (a.window w).waiting = some n) : v = w := by
      rw [State.window, hwindows] at hv hw
      exact hwait.waits_on_one hv hw
    have href (w : WindowId) : a.Referenced w ↔ s.Referenced w :=
      State.referenced_congr (congrArg State.ort ha :) (congrArg State.current ha :) w
    refine ⟨_, hexec, ?_, fun w => ?_, fun n hn => ?_, ?_⟩
    · obtain ⟨windows, contexts, hframe⟩ := a.forceDrain_frame k
      rw [hframe, ha]
      rfl
    · have hdrain := a.forcedDrain_forceDrain k w
      rw [href w, State.window, hwindows] at hdrain
      rw [State.done_window]
      exact hdrain
    · have hdone : ((a.forceDrain k).done m ⟨cmd.words.w0, 1, wordOf (s.drainable k), 0, 0⟩).context n
          = (a.forceDrain k).context n := by
        rw [State.done, State.context_complete, if_neg hn]
      refine State.ForcedDrainContext.of_source (State.forcedDrainContext (fun w hw => ?_) fun hnone => ?_) hwindows
        (hother n hn)
      · rw [State.unreferenced_congr ((State.done_ort ..).trans (a.forceDrain_ort k))
          ((State.done_current ..).trans (a.forceDrain_current k)) w]
        exact hdone.trans (State.context_forceDrain hw (fun v hv => hone n v w hv hw) k)
      · exact hdone.trans (State.context_forceDrain_ne hnone k)
    · rw [State.done, State.context_complete, if_pos rfl, ← s.drainable_eq k]
      refine (State.endsWith_forceDrain (hone m) k .done _).trans ?_
      rw [hself]
      rfl

end Sys2Proof.Machine
end

section
/-!
PROOFS. The drain of a presence loss (O12) and the drain check at the loss of a reference (O31).
-/
namespace Sys2Proof.Machine

variable {s t : State} {c : CurrentCycle} {n : MasterId} {k : SlotId} {w : WindowId}

/-! ## The removal of a reservation, in terms of references (R10, R62) -/

/-- The entry that leaves with its cycle names the cycle's own window. -/
theorem State.TrackerLaws.removeReserved_frame (h : s.TrackerLaws) (hc : s.current = some c) :
    ∃ l, s.removeReserved c = { s with ort := l } ∧ ∀ w, w ≠ c.window → ((∃ e ∈ l, e.window = w) ↔ ∃ e ∈ s.ort,
      e.window = w) := by
  by_cases hk : ∃ tag, c.kind = .splitRead tag
  · obtain ⟨tag, hk⟩ := hk
    refine ⟨_, State.removeReserved_splitRead h.ort h.faultQueue h.reserved hc hk, fun w hw => ?_⟩
    refine exists_congr fun e => and_congr_left fun hew => ?_
    rw [List.mem_filter, and_iff_left_iff_imp]
    intro he
    rw [bne_iff_ne]
    intro hkey
    obtain ⟨hm, ht⟩ := Prod.mk.inj hkey
    have hres := h.reserved_of_cycle hc he (by rw [hk, ← ht]) hm.symm
    obtain ⟨d, hd, -, -, hwindow, -⟩ := h.reserved.of_entry e he hres
    cases hc.symm.trans hd
    exact hw (hew.symm.trans hwindow.symm)
  · exact ⟨s.ort, State.removeReserved_plain fun tag htag => hk ⟨tag, htag⟩, fun w _ => .rfl⟩

/-- Stage 3 on the slot of the current cycle is one drain check, made when nothing names the cycle's window any more but
other entries (R91). -/
theorem State.TrackerLaws.withdrawCycle_drains (h : s.TrackerLaws) (hc : s.current = some c) :
    ∃ u : State, s.withdrawCycle c.slot = u.drainCheck c.window ∧ u.windows = s.windows ∧ u.contexts = s.contexts
      ∧ ∀ w, w ≠ c.window → (u.Referenced w ↔ s.Referenced w) := by
  obtain ⟨l, heq, hl⟩ := h.removeReserved_frame hc
  have hend : s.withdrawCycle c.slot = State.drainCheck
      { State.releaseLines { s with ort := l } { s.lines with ast := .byPart .withdrawn } with current := none }
      c.window := by
    rw [State.withdrawCycle_on hc, heq]
    rfl
  refine ⟨_, hend, rfl, rfl, fun w hw => or_congr (hl w hw) (iff_of_false nofun ?_)⟩
  rintro ⟨d, hd, rfl⟩
  cases hc.symm.trans hd
  exact hw rfl

theorem State.referenced_drainCheck (s : State) (v w : WindowId) : (s.drainCheck v).Referenced w ↔ s.Referenced w :=
  State.referenced_congr (by simp) (by simp) w

/-- Entries that expire keep their windows (R74). -/
theorem State.referenced_withdrawEntries (s : State) (k : SlotId) (w : WindowId) :
    (s.withdrawEntries k).Referenced w ↔ s.Referenced w := by
  rw [State.Referenced, (s.expires_withdrawEntries k).ort, State.withdrawEntries_current, State.Referenced]
  refine or_congr ?_ .rfl
  constructor
  · rintro ⟨e, he, rfl⟩
    obtain ⟨d, hd, rfl⟩ := List.mem_map.1 he
    exact ⟨d, hd, by split <;> rfl⟩
  · rintro ⟨d, hd, rfl⟩
    exact ⟨_, List.mem_map_of_mem hd, by split <;> rfl⟩

/-! ## The five stages at windows and contexts -/

/-- What a drain leaves of a window of the slot that something still names: it is DRAINING, and its context waits on
only
if it was DRAINING before (Table 9-2). -/
theorem Window.drainedTo_referenced {win : Window} (hs : win.state ≠ .free) (hk : win.slot = k) :
    (win.drainedTo k false).state = .draining := by
  unfold Window.drainedTo
  cases hst : win.state with
  | free => exact absurd hst hs
  | active | suspended | held => simp only [hk, if_true]; rfl
  | draining => simp only [hk, if_true]; exact hst

theorem Window.drainedTo_own {win : Window} (hs : win.state ≠ .free) (hk : win.slot = k) (unreferenced : Bool) :
    win.drainedTo k unreferenced = if unreferenced then .cleared else win.drainedTo k false := by
  cases unreferenced with
  | false => rfl
  | true =>
    unfold Window.drainedTo
    cases hst : win.state with
    | free => exact absurd hst hs
    | active | suspended | held | draining => simp only [hk, if_true]

/-- A window that was DRAINING already is left as it is while something names it. -/
theorem Window.drainedTo_draining {win : Window} (hs : win.state = .draining) (k : SlotId) : win.drainedTo k false =
    win := by
  simp only [Window.drainedTo, hs, Bool.false_eq_true, if_false, ite_self]

/-- A drain of a window that was not DRAINING has ended its wait, whatever names it (Table 9-2). -/
theorem Window.drainEnds_undraining {win : Window} (hs : win.state ≠ .draining) (k : SlotId) (w : WindowId)
    (unreferenced : Bool) : win.drainEnds k w unreferenced = win.drainEnds k w false := by
  unfold Window.drainEnds
  cases hst : win.state with
  | draining => exact absurd hst hs
  | free | active | suspended | held => rfl

theorem Window.waiting_drainedTo_own {win : Window} (hs : win.state ≠ .free) (hd : win.state ≠ .draining)
    (hk : win.slot = k) (unreferenced : Bool) : (win.drainedTo k unreferenced).waiting = none := by
  unfold Window.drainedTo
  cases hst : win.state with
  | free => exact absurd hst hs
  | draining => exact absurd hst hd
  | active | suspended | held =>
    simp only [hk, if_true]
    cases unreferenced <;> rfl

/-- References that stand are read alike by the check. -/
theorem State.unreferenced_eq_of_iff (h : t.Referenced w ↔ s.Referenced w) : t.unreferenced w = s.unreferenced w :=
  Bool.eq_iff_iff.2 ((t.unreferenced_iff w).trans ((not_congr h).trans (s.unreferenced_iff w).symm))

/-- Stage 3 after the drain of stage 2 has met every window as its references before the event say. -/
theorem State.TrackerLaws.withdrawCycle_forceDrain {b : State} (h : b.TrackerLaws) (hcurrent : b.current = s.current)
    (hslot : ∀ c, s.current = some c → (s.window c.window).state ≠ .free ∧ (s.window c.window).slot = c.slot)
    (hone : ∀ n v w, (s.window v).waiting = some n → (s.window w).waiting = some n → v = w)
    (hwindow : ∀ w, b.window w = (s.window w).drainedTo k (b.unreferenced w))
    (hends : ∀ n w, (s.window w).waiting = some n →
      b.context n = (s.context n).ended ((s.window w).drainEnds k w (b.unreferenced w)))
    (hidle : ∀ n, (∀ w, (s.window w).waiting ≠ some n) → b.context n = s.context n) :
    (∀ w, (b.withdrawCycle k).window w = (s.window w).drainedTo k ((b.withdrawCycle k).unreferenced w))
      ∧ (∀ n w, (s.window w).waiting = some n → (b.withdrawCycle k).context n
        = (s.context n).ended ((s.window w).drainEnds k w ((b.withdrawCycle k).unreferenced w)))
      ∧ ∀ n, (∀ w, (s.window w).waiting ≠ some n) → (b.withdrawCycle k).context n = s.context n := by
  obtain ⟨hoff, -⟩ | ⟨c, hc, rfl, -⟩ := b.withdrawCycle_cases k
  · rw [hoff]
    exact ⟨hwindow, hends, hidle⟩
  obtain ⟨u, hu, huw, huc, huref⟩ := h.withdrawCycle_drains hc
  obtain ⟨hfree, hk⟩ := hslot c (hcurrent ▸ hc)
  have hwindow' (w : WindowId) : u.window w = (s.window w).drainedTo c.slot (b.unreferenced w) := by
    rw [← hwindow w, State.window, huw, State.window]
  have hcontext (n : MasterId) : u.context n = b.context n := by rw [State.context, huc, State.context]
  have hreferenced : b.unreferenced c.window = false := State.unreferenced_eq_false (.inr ⟨c, hc, rfl⟩)
  have hother (w : WindowId) (hw : w ≠ c.window) : u.unreferenced w = b.unreferenced w :=
    State.unreferenced_eq_of_iff (huref w hw)
  have hdraining : (u.window c.window).state = .draining := by
    rw [hwindow', hreferenced]
    exact Window.drainedTo_referenced hfree hk
  have hunref (w : WindowId) : (b.withdrawCycle c.slot).unreferenced w = u.unreferenced w := by
    rw [hu]
    exact State.unreferenced_eq_of_iff (u.referenced_drainCheck _ w)
  refine ⟨fun w => ?_, fun n w hn => ?_, fun n hn => ?_⟩
  · rw [hunref, hu]
    by_cases hw : w = c.window
    · subst hw
      rw [State.window_drainCheck_draining hdraining, hwindow', hreferenced]
      exact (Window.drainedTo_own hfree hk _).symm
    · rw [State.window_drainCheck_ne _ hw, hwindow', hother w hw]
  · rw [hunref, hu]
    by_cases hw : w = c.window
    · subst hw
      by_cases hd : (s.window c.window).state = .draining
      · have hkept : u.window c.window = s.window c.window := by
          rw [hwindow', hreferenced, Window.drainedTo_draining hd]
        have hb : b.context n = s.context n := by
          rw [hends n _ hn, hreferenced]
          simp only [Window.drainEnds, hd, Bool.false_eq_true, and_false, if_false, Context.ended_none]
        rw [State.context_drainCheck_draining hdraining (by rw [hkept]; exact hn), hcontext, hb, hkept]
        cases u.unreferenced c.window <;> simp [Window.drainEnds, hd, hk, Context.ended]
      · rw [State.context_drainCheck_ne, hcontext, hends n _ hn, Window.drainEnds_undraining hd _ _ (u.unreferenced _),
          Window.drainEnds_undraining hd]
        rw [hwindow', Window.waiting_drainedTo_own hfree hd hk]
        exact nofun
    · rw [State.context_drainCheck_ne, hcontext, hends n w hn, hother w hw]
      rw [hwindow']
      exact Window.waiting_drainedTo (fun hv => hw (hone n _ _ hn hv)) _ _
  · rw [hu, State.context_drainCheck_ne, hcontext, hidle n hn]
    rw [hwindow']
    exact Window.waiting_drainedTo (hn _) _ _

/-- Windows and contexts after a presence loss: the drain of stage 2 as the references after the event, those of
stage 3 gone, say (R91, R148). -/
theorem State.TrackerLaws.presenceLoss_drains (h : s.TrackerLaws) (href : s.ReferenceLaw) (hwait : s.WaitLaw) (k :
    SlotId) :
    (∀ w, (s.presenceLoss k).window w = (s.window w).drainedTo k ((s.presenceLoss k).unreferenced w))
      ∧ (∀ n w, (s.window w).waiting = some n → (s.presenceLoss k).context n
        = (s.context n).ended ((s.window w).drainEnds k w ((s.presenceLoss k).unreferenced w)))
      ∧ ∀ n, (∀ w, (s.window w).waiting ≠ some n) → (s.presenceLoss k).context n = s.context n := by
  obtain ⟨a, ha⟩ : ∃ a, a = s.setSlot k (s.slot k).lost := ⟨_, rfl⟩
  have hb : (a.forceDrain k).TrackerLaws := by
    rw [ha]
    exact h.drained k _
  have hwindows : a.windows = s.windows := (congrArg State.windows ha :)
  have hcontexts : a.contexts = s.contexts := (congrArg State.contexts ha :)
  have hcurrent : a.current = s.current := (congrArg State.current ha :)
  have hwindow (w : WindowId) : a.window w = s.window w := by rw [State.window, hwindows, State.window]
  have hcontext (n : MasterId) : a.context n = s.context n := by rw [State.context, hcontexts, State.context]
  have hunref (w : WindowId) : (a.forceDrain k).unreferenced w = a.unreferenced w :=
    State.unreferenced_congr (a.forceDrain_ort k) (a.forceDrain_current k) w
  have hone (n : MasterId) (v w : WindowId) (hv : (s.window v).waiting = some n) (hw : (s.window w).waiting = some n) :
      v = w := hwait.waits_on_one hv hw
  obtain ⟨window, ends, idle⟩ := hb.withdrawCycle_forceDrain (s := s) (k := k)
    ((a.forceDrain_current k).trans hcurrent) (fun c hc => (href.cycle c hc).2) hone
    (fun w => by rw [State.window_forceDrain_eq, hunref, hwindow])
    (fun n w hn => by
      rw [State.context_forceDrain (by rw [hwindow]; exact hn) fun v hv => hone n v w (hwindow v ▸ hv) hn, hunref,
        hwindow, hcontext])
    (fun n hn => by rw [State.context_forceDrain_ne (fun w => by rw [hwindow]; exact hn w), hcontext])
  have hlast (w : WindowId) :
      (s.presenceLoss k).unreferenced w = ((a.forceDrain k).withdrawCycle k).unreferenced w := by
    rw [s.presenceLoss_eq, ← ha]
    exact (State.unreferenced_congr (State.raise_ort ..) (State.raise_current ..) w).trans
      (State.unreferenced_eq_of_iff (State.referenced_withdrawEntries _ k w))
  simp only [hlast]
  simp only [s.presenceLoss_eq, ← ha, State.raise_window, State.raise_context, State.withdrawEntries_window,
    State.withdrawEntries_context]
  exact ⟨window, ends, idle⟩

/-- Settles O12: the edge moves the pins alone, and the stages drain as the references after the event say. -/
theorem presenceLossDrains : Obligations.PresenceLossDrains := by
  intro s k hl hi hk hp
  have laws : (s.movePrs k false).TrackerLaws :=
    State.TrackerLaws.of_tracker ⟨hl.ort, hl.faultQueue, hl.mastership, hl.reserved⟩ (s.tracker_movePrs k false)
  obtain ⟨window, ends, idle⟩ := laws.presenceLoss_drains ⟨hl.reference.entry, hl.reference.cycle⟩
    ⟨hl.wait.change_iff_held, hl.wait.held_waits, hl.wait.waiting_state, hl.wait.named, hl.wait.waits_on,
      hl.wait.held_command, hl.wait.draining_command⟩ k
  refine ⟨_, exec_presenceLoss hi hk hp, fun w => ?_, fun n => State.forcedDrainContext (ends n) (idle n)⟩
  rw [window w]
  exact Window.forcedDrain_drainedTo _ k (State.unreferenced_iff _ w)

end Sys2Proof.Machine
end

section
/-!
PROOFS. The drain check at the loss of a reference (O31).
-/
namespace Sys2Proof.Machine

variable {s t a b : State} {c : CurrentCycle} {e : OrtEntry} {m n : MasterId} {w : WindowId}

/-! ## The drain check in the words of the rules (R133, R145, R147) -/

/-- The record a HELD window takes with its pending change (R133). -/
def State.appliedWindow (s : State) (w : WindowId) (c : PendingChange) : Window :=
  if s.heldCommand (s.window w) = some .move then ((s.window w).reshaped c).released.unstruck
  else ((s.window w).reshaped c).released

theorem State.applyChange_some {c : PendingChange} (hc : (s.window w).change = some c) :
    s.applyChange w = (s.setWindow w (s.appliedWindow w c)).completeWaiter (s.window w).waiting .done
      (shapeWords w (s.appliedWindow w c)) := by
  simp only [State.applyChange, hc]
  rfl

theorem State.appliedWindow_eq (hm : (s.window w).waiting = some m) (c : PendingChange) :
    s.appliedWindow w c = { s.window w with
      state := .active, base := c.base, length := c.length, slot := c.slot, target := c.target, change := none,
      waiting := none, strikes := if (s.context m).command = some .move then 0 else (s.window w).strikes } := by
  have hcommand : s.heldCommand (s.window w) = (s.context m).command := by
    simp only [State.heldCommand, hm]
    rfl
  rw [State.appliedWindow, hcommand]
  split <;> rfl

theorem State.shapeWords_appliedWindow {c : PendingChange} (hr : rangeOk c.base c.length c.target = true) :
    shapeWords w (s.appliedWindow w c) = doneShape w (s.appliedWindow w c) := by
  refine shapeWords_eq w ?_
  rw [State.appliedWindow]
  split <;> exact (rangeOk_iff _ _ _).1 hr

theorem State.drained_drainCheck (hrange : ∀ c ∈ (s.window w).change, rangeOk c.base c.length c.target = true) :
    s.Drained (s.drainCheck w) w where
  remains href := by
    rw [State.drainCheck_referenced ((s.referenced_drainCheck w w).1 href)]
    exact ⟨rfl, rfl⟩
  applied c m href hs hc hm := by
    have heq := State.applyChange_some hc
    rw [State.drainCheck_held (mt (s.referenced_drainCheck w w).2 href) hs, heq, State.completeWaiter_window,
      State.window_setWindow_self, ← State.appliedWindow_eq hm c, ← State.shapeWords_appliedWindow (hrange c hc)]
    refine ⟨rfl, ?_, fun n hn => ?_⟩
    · rw [State.context_completeWaiter, if_pos hm]
      rfl
    · rw [State.context_completeWaiter_ne (by rw [hm]; exact fun h => hn (Option.some.inj h).symm)]
      rfl
  freed href hs := by
    rw [State.drainCheck_draining (mt (s.referenced_drainCheck w w).2 href) hs, State.becomeFree]
    refine ⟨State.window_setWindow_self _ w _, fun m hm => ?_, fun n hn => ?_⟩
    · rw [State.setWindow_context, State.context_completeWaiter, if_pos hm]
      rfl
    · rw [State.setWindow_context, State.context_completeWaiter_ne hn]

/-- The drain check within an event that reaches the window, the contexts and the references by it alone. -/
theorem State.Drained.of_event (h : a.Drained b w) (hwindow : a.window w = s.window w)
    (hcontexts : a.contexts = s.contexts) (hwindow' : t.window w = b.window w) (hcontexts' : t.contexts = b.contexts)
    (href : t.Referenced w ↔ b.Referenced w) : s.Drained t w := by
  have hcontext (n : MasterId) : a.context n = s.context n := by rw [State.context, hcontexts, State.context]
  have hcontext' (n : MasterId) : t.context n = b.context n := by rw [State.context, hcontexts', State.context]
  obtain ⟨remains, applied, freed⟩ := h
  simp only [hwindow, hcontexts, hcontext, ← hwindow', ← hcontexts', ← hcontext', ← href] at remains applied freed
  exact ⟨remains, applied, freed⟩

/-! ## Strikes and clears on a window that is HELD or DRAINING do nothing (R48, R49) -/

theorem Window.inactive_of_waitable {win : Window} (h : win.state = .held ∨ win.state = .draining) :
    win.state ≠ .active := by
  obtain hs | hs := h <;> rw [hs] <;> exact nofun

/-- The end of a cycle on such a window: the reservation is settled and the drain check follows. -/
theorem State.TrackerLaws.acknowledge_inactive (h : s.TrackerLaws) (hc : s.current = some c)
    (hs : (s.window c.window).state ≠ .active) (status : Status) :
    ∃ l ast, s.acknowledge status = State.endCycle { s with ort := l } c ast := by
  by_cases hp : c.kind.proper status = true
  · rw [State.acknowledge_proper hc hp, State.properEnd, State.strikeClear_inactive hs]
    split
    · next haccept =>
      obtain hok | ⟨-, hk⟩ := (c.kind.proper_iff status).1 hp
      · cases hok.symm.trans haccept
      · obtain ⟨l, heq, -⟩ := State.acceptReserved_settles (s := s) hk trivial
        exact ⟨l, _, by rw [heq]⟩
    · obtain ⟨l, heq, -⟩ := h.removeReserved_frame hc
      exact ⟨l, _, by rw [heq]⟩
  · obtain ⟨l, heq, -⟩ := h.removeReserved_frame hc
    rw [State.acknowledge_improper hc hp, State.improperEnd, State.strike_inactive hs]
    exact ⟨l, _, by rw [heq]⟩

theorem State.TrackerLaws.timerExpiry_inactive (h : s.TrackerLaws) (hc : s.current = some c)
    (hs : (s.window c.window).state ≠ .active) :
    ∃ l ast, s.timerExpiry = State.endCycle { s with ort := l } c ast := by
  obtain ⟨l, heq, -⟩ := h.removeReserved_frame hc
  refine ⟨l, .byPart .silent, ?_⟩
  simp only [State.timerExpiry, hc, State.strike_inactive hs, heq]

theorem State.RangeLaw.drained_endCycle (hr : s.RangeLaw) (l : List OrtEntry) (ast : AstLines) :
    s.Drained (State.endCycle { s with ort := l } c ast) c.window :=
  (State.drained_drainCheck (s := { State.releaseLines { s with ort := l } { s.lines with ast := ast } with current :=
      none })
    (hr c.window).2).of_event rfl rfl rfl rfl .rfl

theorem State.RangeLaw.drained_removeEntry (hr : s.RangeLaw) (e : OrtEntry) : s.Drained (s.removeEntry e) e.window :=
  (State.drained_drainCheck (s := s.dropEntry e.key) (hr e.window).2).of_event rfl rfl rfl rfl .rfl

/-- A reply that passes, on an entry of such a window: the entry's removal and what no window sees. -/
theorem State.RangeLaw.drained_passWaiting (hr : s.RangeLaw) (hs : (s.window e.window).state ≠ .active)
    (status : Status) : s.Drained (s.passWaiting e status) e.window := by
  have hclear : (s.releaseLines (Lines.slaveReply status false)).strikeClear e.window
      = s.releaseLines (Lines.slaveReply status false) := State.strikeClear_inactive hs
  rw [State.passWaiting, hclear]
  have hdrained := State.RangeLaw.drained_removeEntry (s := s.releaseLines (Lines.slaveReply status false)) hr e
  exact hdrained.of_event rfl rfl rfl rfl .rfl

theorem State.RangeLaw.drained_passExpired (hr : s.RangeLaw) (e : OrtEntry) (status : Status) :
    s.Drained (s.passExpired e status) e.window := by
  have hdrained := State.RangeLaw.drained_removeEntry (s := s.releaseLines (Lines.slaveReply status false)) hr e
  exact hdrained.of_event rfl rfl (State.releaseRequest_window ..) (State.releaseRequest_contexts ..)
    (State.referenced_congr (State.releaseRequest_ort ..) (State.releaseRequest_current ..) _)

theorem State.RangeLaw.drained_endTenure (hr : s.RangeLaw) (e : OrtEntry) :
    s.Drained (s.removeEntry e).endTenure e.window :=
  (hr.drained_removeEntry e).of_event rfl rfl rfl rfl .rfl

/-- The entry of an accepted SPLIT READ stays, so the window stays named (R62). -/
theorem State.TrackerLaws.referenced_accepted (h : s.TrackerLaws) (hc : s.current = some c) {tag : Tag}
    (hk : c.kind = .splitRead tag) (hs : (s.window c.window).state ≠ .active) (status : Status) (hst : status =
        .accept) :
    (s.acknowledge status).Referenced c.window := by
  obtain ⟨e, he, hkey, -, hw, -⟩ := h.reserved.of_cycle c tag hc hk
  obtain ⟨d, heq⟩ := State.acceptReserved_splitRead hk s
  have hp : c.kind.proper .accept = true := (c.kind.proper_iff _).2 (.inr ⟨rfl, tag, hk⟩)
  have hend : s.acknowledge .accept = (s.acceptReserved c).endCycle c (.bySlave .accept) := by
    rw [State.acknowledge_proper hc hp, State.properEnd, State.strikeClear_inactive hs]
    rfl
  rw [hst, hend, heq, State.Referenced, State.endCycle_ort, State.setEntryState_ort]
  refine .inl ⟨_, List.mem_map_of_mem he, ?_⟩
  rw [← hw]
  split <;> rfl

/-- The three events that end a cycle, on a window that is HELD or DRAINING. -/
theorem State.DeviceLaws.cycleEnd_drained (h : s.DeviceLaws) (hi : s.pins.init = false) (hc : s.current = some c)
    (hs : (s.window c.window).state ≠ .active) {i : Instr}
    (hevent : (∃ status, i = .properAcknowledge status ∨ i = .improperAcknowledge status)
      ∨ i = .acknowledgeTimerExpiry) : ∃ t, exec i s = .next t ∧ s.Drained t c.window := by
  have tracker : s.TrackerLaws := ⟨h.ort, h.faultQueue, h.mastership, h.reserved⟩
  obtain ⟨status, rfl | rfl⟩ | rfl := hevent
  · obtain ⟨l, ast, heq⟩ := tracker.acknowledge_inactive hc hs status
    exact ⟨_, (exec_properAcknowledge hi status).trans (congrArg _ heq), h.range.drained_endCycle l ast⟩
  · obtain ⟨l, ast, heq⟩ := tracker.acknowledge_inactive hc hs status
    exact ⟨_, (exec_improperAcknowledge hi status).trans (congrArg _ heq), h.range.drained_endCycle l ast⟩
  · obtain ⟨l, ast, heq⟩ := tracker.timerExpiry_inactive hc hs
    exact ⟨_, (exec_acknowledgeTimerExpiry hi).trans (congrArg _ heq), h.range.drained_endCycle l ast⟩

/-- Settles O31: neither strike nor clear reaches the window, so each event is the loss of the reference with its drain
check; after the ACCEPT of a SPLIT READ the entry is a reference still. -/
theorem drainCheckAtLostReference : Obligations.DrainCheckAtLostReference := by
  intro s h hi i w hs hevent
  have hinactive := Window.inactive_of_waitable hs
  obtain ⟨c, hc, rfl, hcycle⟩ | ⟨hc, hm, e, he, rfl, hstate, data, status, rfl⟩ | ⟨hm, rfl, e, he, rfl, hhead⟩ := hevent
  · obtain ⟨t, hexec, hdrained⟩ := h.cycleEnd_drained hi hc hinactive hcycle
    refine ⟨t, hexec, hdrained, fun c' tag hc' hk hi' => ?_⟩
    obtain rfl := Option.some.inj (hc.symm.trans hc')
    have href : t.Referenced c.window := by
      rw [hi', exec_properAcknowledge hi] at hexec
      cases hexec
      exact State.TrackerLaws.referenced_accepted ⟨h.ort, h.faultQueue, h.mastership, h.reserved⟩ hc hk hinactive _ rfl
    exact ⟨href, hdrained.remains href⟩
  · have hexec := State.BusReady.replyCycle ⟨hi, hc, hm⟩ e.master e.tag e.slot data status
    obtain ⟨d, hd⟩ | hx := hstate
    · exact ⟨_, hexec.trans (h.ort.matchReply_waiting he hd status), h.range.drained_passWaiting hinactive status,
        nofun⟩
    · exact ⟨_, hexec.trans (h.ort.matchReply_silent he hx status), h.range.drained_passExpired e status, nofun⟩
  · obtain ⟨rest, hqueue⟩ : ∃ rest, s.faultQueue = e.key :: rest := List.head?_eq_some_iff.1 hhead
    exact ⟨_, (exec_faultReplyEnd hi hm hqueue).trans (congrArg _ (h.ort.endFaultReply he)),
      h.range.drained_endTenure e, nofun⟩

end Sys2Proof.Machine
end

section
/-!
PROOFS. What an event that answers a next state has done, in the operations of the model: the take of a command
(`State.Effect`), an address phase, the end of a cycle and the rest (`State.Event`). The laws of the device are then
    read
off operation by operation.
-/
namespace Sys2Proof.Machine

variable {s t a : State} {m : MasterId} {w : WindowId} {cmd : Captured}

/-! ## What a command writes in a window record -/

/-- The window is one that a window command may name: neither entry 0 nor FREE (R111). -/
structure State.Commandable (s : State) (w : WindowId) : Prop where
  notPort : w ≠ 0
  notFree : (s.window w).state ≠ .free

/-- The record r that a command of master m writes in window w and is whole at its take, with the checks it has passed
(R123 to R139, R54). -/
inductive State.Writes (s : State) (m : MasterId) (w : WindowId) : Window → Prop
  | claim (o : ClaimOperands) (free : s.lowestFree = some w) (range : rangeOk o.base o.length o.target = true)
      (online : (s.slot o.slot).state = .online)
      (room : s.overlaps none o.space o.layer o.base o.length = false) : s.Writes m w (claimedWindow m o)
  | resize (length : Nat) (named : s.Commandable w) (active : (s.window w).state = .active)
      (range : rangeOk (s.window w).base length (s.window w).target = true)
      (room : (s.window w).length < length →
        s.overlaps (some w) (s.window w).space (s.window w).layer (s.window w).base length = false) :
      s.Writes m w ((s.window w).withLength length)
  | move (c : PendingChange) (named : s.Commandable w) (active : (s.window w).state = .active)
      (range : rangeOk c.base c.length c.target = true) (online : (s.slot c.slot).state = .online)
      (room : s.overlaps (some w) (s.window w).space (s.window w).layer c.base c.length = false)
      (unreferenced : s.unreferenced w = true) : s.Writes m w ((s.window w).reshaped c).unstruck
  | restack (layer : Fin 4) (named : s.Commandable w)
      (serving : (s.window w).state = .active ∨ (s.window w).state = .suspended)
      (room : s.overlaps (some w) (s.window w).space layer (s.window w).base (s.window w).length = false) :
      s.Writes m w ((s.window w).withLayer layer)
  | grant (readSet writeSet : MasterSet) (named : s.Commandable w) :
      s.Writes m w ((s.window w).withSets readSet writeSet)
  | handover (sponsor : MasterId) (named : s.Commandable w) : s.Writes m w ((s.window w).withSponsor sponsor)
  | reinstate (named : s.Commandable w) (suspended : (s.window w).state = .suspended) :
      s.Writes m w (s.window w).reinstated

/-- The record that a command leaves its window with while it waits on it (R128, R131, R143). -/
inductive State.Awaits (s : State) (w : WindowId) : Window → Prop
  | held (c : PendingChange) (named : s.Commandable w) (active : (s.window w).state = .active)
      (range : rangeOk c.base c.length c.target = true) (online : (s.window w).slot = c.slot ∨ (s.slot c.slot).state =
          .online)
      (room : (c.base = (s.window w).base ∧ c.length < (s.window w).length)
        ∨ s.overlaps (some w) (s.window w).space (s.window w).layer c.base c.length = false) :
      s.Awaits w ((s.window w).heldFor c)
  | draining (named : s.Commandable w) (serving : (s.window w).state = .active ∨ (s.window w).state = .suspended) :
      s.Awaits w (s.window w).draining

/-- What the take of a command of master m makes of the state in which its checks run. -/
inductive State.Effect (s : State) (m : MasterId) : State → Prop
  | completes (code : ResultCode) (ws : Words) : s.Effect m (s.complete m code ws)
  | writes (w : WindowId) (r : Window) (ws : Words) (h : s.Writes m w r) : s.Effect m ((s.setWindow w r).done m ws)
  | awaits (w : WindowId) (r : Window) (h : s.Awaits w r) : s.Effect m (s.awaitWindow m w r)
  | retires (w : WindowId) (ws : Words) (named : s.Commandable w)
      (serving : (s.window w).state = .active ∨ (s.window w).state = .suspended) :
      s.Effect m (((s.setWindow w (s.window w).draining).drainCheck w).done m ws)
  | setsLimits (k : SlotId) (ack reply : Word) (ws : Words) (hack : limitOk ack = true) (hreply : limitOk reply =
      true) :
      s.Effect m ((s.setSlot k ((s.slot k).withLimits ack.toNat reply.toNat)).done m ws)
  | putsOnline (k : SlotId) (ws : Words) (offline : (s.slot k).state = .offline) :
      s.Effect m ((s.setSlot k ((s.slot k).withState .online)).done m ws)
  | takesOffline (k : SlotId) (ws : Words) (hk : k ≠ 0) (online : (s.slot k).state = .online) :
      s.Effect m (((s.setSlot k ((s.slot k).withState .offline)).forceDrain k).done m ws)
  | writesMaster (k : MasterId) (r : MasterRecord) (ws : Words) (supervised : (s.setMaster k r).hasSupervisor = true) :
      s.Effect m ((s.writeMaster k r).done m ws)
  | tunes (limit : Nat) (sel : SelectionOperand) (ws : Words) (bound : limit ≤ 15) :
      s.Effect m ((s.tuned limit sel).done m ws)

theorem State.Effect.refuse (s : State) (m : MasterId) (code : ResultCode) : s.Effect m (s.refuse m code) :=
  .completes code _

theorem State.Effect.done (s : State) (m : MasterId) (ws : Words) : s.Effect m (s.done m ws) := .completes .done ws

/-! ## The commands, one by one -/

theorem effect_badCommand (m : MasterId) (cmd : Captured) (s : State) : s.Effect m (badCommandEffect m cmd s) :=
  .completes _ _

/-- A window command that goes on to its own checks has passed the common ones (R111). -/
theorem State.Effect.windowCommand (id : Word) {own : WindowId → State}
    (h : ∀ w, s.Commandable w → s.Effect m (own w)) : s.Effect m (s.windowCommand m id own) := by
  unfold State.windowCommand
  split
  · exact .refuse s m _
  · next w hnamed =>
    refine h w ?_
    unfold State.windowNamed at hnamed
    split at hnamed
    · cases hnamed
    · split at hnamed
      · cases hnamed
      · next hfree =>
        split at hnamed
        · cases hnamed
        · next hport =>
          split at hnamed
          · cases hnamed
            exact ⟨hport, hfree⟩
          · cases hnamed

theorem State.Effect.registryCommand {own : State} (h : s.Effect m own) : s.Effect m (s.registryCommand m own) := by
  unfold State.registryCommand
  split
  · exact h
  · exact .refuse s m _

theorem effect_claim (m : MasterId) (cmd : Captured) (s : State) : s.Effect m (claimEffect m cmd s) := by
  unfold claimEffect
  split
  · exact .refuse s m _
  · next o _ =>
    split
    · exact .refuse s m _
    · next hrange =>
      split
      · exact .refuse s m _
      · next honline =>
        split
        · exact .refuse s m _
        · next hroom =>
          split
          · exact .refuse s m _
          · next w hfree =>
            exact .writes w _ _ (.claim o hfree (by simpa using hrange) (by simpa using honline) (by simpa using hroom))

theorem effect_resize (m : MasterId) (cmd : Captured) (s : State) : s.Effect m (resizeEffect m cmd s) := by
  refine .windowCommand _ fun w hw => ?_
  dsimp only
  split
  · exact .refuse s m _
  · exact .refuse s m _
  · exact .refuse s m _
  · exact .refuse s m _
  · next hs =>
    split
    · exact .refuse s m _
    · next hrange =>
      split
      · exact .refuse s m _
      · next hroom =>
        have hrange : rangeOk (s.window w).base cmd.words.w1.toNat (s.window w).target = true := by simpa using hrange
        unfold State.resizeWindow
        dsimp only
        split
        · next hshrink =>
          rw [Bool.and_eq_true, decide_eq_true_eq] at hshrink
          exact .awaits w _ (.held _ hw hs hrange (.inl rfl) (.inl ⟨rfl, hshrink.1⟩))
        · refine .writes w _ _ (.resize _ hw hs hrange fun hgrow => ?_)
          simpa [hgrow] using hroom

theorem effect_move (m : MasterId) (cmd : Captured) (s : State) : s.Effect m (moveEffect m cmd s) := by
  refine .windowCommand _ fun w hw => ?_
  dsimp only
  split
  · exact .refuse s m _
  · exact .refuse s m _
  · exact .refuse s m _
  · exact .refuse s m _
  · next hs =>
    split
    · exact .refuse s m _
    · next k _ =>
      split
      · exact .refuse s m _
      · next hrange =>
        split
        · exact .refuse s m _
        · next honline =>
          split
          · exact .refuse s m _
          · next hroom =>
            have hrange : rangeOk cmd.words.w1.toNat (s.window w).length (moveTargetOperand cmd.words) = true := by
              simpa using hrange
            have honline : (s.slot k).state = .online := by simpa using honline
            have hroom := (Bool.not_eq_true _).mp hroom
            unfold State.moveWindow
            dsimp only
            split
            · next hunref => exact .writes w _ _ (.move _ hw hs hrange honline hroom hunref)
            · exact .awaits w _ (.held _ hw hs hrange (.inr honline) (.inr hroom))

theorem effect_restack (m : MasterId) (cmd : Captured) (s : State) : s.Effect m (restackEffect m cmd s) := by
  have own (w : WindowId) (hw : s.Commandable w)
      (hs : (s.window w).state = .active ∨ (s.window w).state = .suspended) :
      s.Effect m (s.restackWindow m w cmd.words.w1) := by
    unfold State.restackWindow
    dsimp only
    split
    · exact .refuse s m _
    · split
      · exact .refuse s m _
      · next hroom => exact .writes w _ _ (.restack _ hw hs (by simpa using hroom))
  refine .windowCommand _ fun w hw => ?_
  split
  · exact .refuse s m _
  · exact .refuse s m _
  · exact .refuse s m _
  · next hs => exact own w hw (.inl hs)
  · next hs => exact own w hw (.inr hs)

theorem effect_grant (m : MasterId) (cmd : Captured) (s : State) : s.Effect m (grantEffect m cmd s) := by
  have own (w : WindowId) (hw : s.Commandable w) : s.Effect m (s.grantWindow m w cmd.words.w1) :=
    .writes w _ _ (.grant _ _ hw)
  refine .windowCommand _ fun w hw => ?_
  split
  · exact .refuse s m _
  · exact .refuse s m _
  · exact own w hw
  · exact own w hw
  · exact own w hw

theorem effect_handover (m : MasterId) (cmd : Captured) (s : State) : s.Effect m (handoverEffect m cmd s) := by
  have own (w : WindowId) (hw : s.Commandable w) : s.Effect m (s.handoverWindow m w cmd.words.w1) := by
    unfold State.handoverWindow
    split
    · exact .refuse s m _
    · exact .writes w _ _ (.handover _ hw)
  refine .windowCommand _ fun w hw => ?_
  split
  · exact .refuse s m _
  · exact .refuse s m _
  · exact own w hw
  · exact own w hw
  · exact own w hw

theorem effect_retire (m : MasterId) (cmd : Captured) (s : State) : s.Effect m (retireEffect m cmd s) := by
  have own (w : WindowId) (hw : s.Commandable w)
      (hs : (s.window w).state = .active ∨ (s.window w).state = .suspended) : s.Effect m (s.retireWindow m w) := by
    unfold State.retireWindow
    dsimp only
    split
    · exact .retires w _ hw hs
    · exact .awaits w _ (.draining hw hs)
  refine .windowCommand _ fun w hw => ?_
  split
  · exact .refuse s m _
  · exact .refuse s m _
  · exact .refuse s m _
  · next hs => exact own w hw (.inl hs)
  · next hs => exact own w hw (.inr hs)

theorem effect_reinstate (m : MasterId) (cmd : Captured) (s : State) : s.Effect m (reinstateEffect m cmd s) := by
  refine .windowCommand _ fun w hw => ?_
  split
  · next hs => exact .writes w _ _ (.reinstate hw hs)
  · exact .refuse s m _
  · exact .refuse s m _
  · exact .refuse s m _
  · exact .refuse s m _

theorem effect_setSlot (m : MasterId) (cmd : Captured) (s : State) : s.Effect m (setSlotEffect m cmd s) := by
  refine .registryCommand ?_
  split
  · exact .refuse s m _
  · split
    · next hlimits =>
      rw [Bool.and_eq_true] at hlimits
      exact .setsLimits _ _ _ _ hlimits.1 hlimits.2
    · exact .refuse s m _

theorem effect_slotOnline (m : MasterId) (cmd : Captured) (s : State) : s.Effect m (slotOnlineEffect m cmd s) := by
  refine .registryCommand ?_
  split
  · exact .refuse s m _
  · split
    · exact .refuse s m _
    · exact .done s m _
    · next hs => exact .putsOnline _ _ hs

theorem effect_slotOffline (m : MasterId) (cmd : Captured) (s : State) : s.Effect m (slotOfflineEffect m cmd s) := by
  refine .registryCommand ?_
  split
  · exact .refuse s m _
  · split
    · exact .refuse s m _
    · next hk =>
      split
      · exact .refuse s m _
      · exact .done s m _
      · next hs => exact .takesOffline _ _ hk hs

theorem effect_setMaster (m : MasterId) (cmd : Captured) (s : State) : s.Effect m (setMasterEffect m cmd s) := by
  refine .registryCommand ?_
  split
  · exact .refuse s m _
  · dsimp only
    split
    · next hsup => exact .writesMaster _ _ _ hsup
    · exact .refuse s m _

theorem effect_tune (m : MasterId) (cmd : Captured) (s : State) : s.Effect m (tuneEffect m cmd s) := by
  refine .registryCommand ?_
  split
  · exact .refuse s m _
  · dsimp only
    split
    · next hlimit => exact .tunes _ _ _ hlimit
    · exact .refuse s m _

theorem effect_inspect (m : MasterId) (cmd : Captured) (s : State) : s.Effect m (inspectEffect m cmd s) := by
  unfold inspectEffect
  split
  · exact .refuse s m _
  · exact .done s m _

theorem effect_resolve (m : MasterId) (cmd : Captured) (s : State) : s.Effect m (resolveEffect m cmd s) := by
  unfold resolveEffect
  split
  · exact .refuse s m _
  · exact .done s m _

end Sys2Proof.Machine
end

section
/-!
PROOFS. Every event as one of the machine's operations (`State.Event`), with what its guards have found.
-/
namespace Sys2Proof.Machine

variable {s t : State} {m : MasterId} {w : WindowId} {c : CurrentCycle} {e : OrtEntry}

/-- What an event that answers a next state has made of the state, by its operation and what the operation's guards have
found. -/
inductive State.Event (s : State) : State → Prop
  | nothing : s.Event s
  | init : s.Event s.initialise
  | release (asserted : s.pins.init = true) (prs mode : BitVec 16) : s.Event (s.release prs mode)
  | answer (ready : s.BusReady) (status : Status) : s.Event (s.answer status)
  | serve (ready : s.BusReady) (data : Option Word) : s.Event (s.serve data)
  | portWrite (ready : s.BusReady) (m : MasterId) (enabled : (s.master m).enabled = true) (data : Word) (port : Port) :
      s.Event ((s.portWrite m data port).serve none)
  | select (ready : s.BusReady) (m : MasterId) (kind : CurrentKind) (w : WindowId) (unit : Nat) (named : s.Commandable
      w) :
      s.Event (s.select m kind w unit)
  | reserve (ready : s.BusReady) (m : MasterId) (tag : Tag) (w : WindowId) (unit : Nat) (named : s.Commandable w)
      (mem : (s.window w).space = .mem) (within : unit < Config.units) :
      s.Event ((s.reserve m tag w unit).select m (.splitRead tag) w unit)
  | take (m : MasterId) (rest : List MasterId) (cmd : Captured) (takes : s.Takes m rest cmd) (t : State)
      (effect : (s.taking m rest).Effect m t) : s.Event t
  | properEnd (released : s.pins.init = false) (c : CurrentCycle) (current : s.current = some c) (ast : AstLines) :
      s.Event (((s.strikeClear c.window).removeReserved c).endCycle c ast)
  | acceptedEnd (released : s.pins.init = false) (c : CurrentCycle) (current : s.current = some c) (ast : AstLines) :
      s.Event (((s.strikeClear c.window).acceptReserved c).endCycle c ast)
  | struckEnd (released : s.pins.init = false) (c : CurrentCycle) (current : s.current = some c) (ast : AstLines) :
      s.Event (((s.strike c.window).removeReserved c).endCycle c ast)
  | expire (released : s.pins.init = false) (e : OrtEntry) (mem : e ∈ s.ort) : s.Event (s.expireEntry e)
  | voidReply (ready : s.BusReady) (source : SlotId) (status : Status) : s.Event (s.voidReply source status)
  | passWaiting (ready : s.BusReady) (e : OrtEntry) (mem : e ∈ s.ort) (status : Status) : s.Event (s.passWaiting e
      status)
  | passExpired (ready : s.BusReady) (e : OrtEntry) (mem : e ∈ s.ort) (status : Status) : s.Event (s.passExpired e
      status)
  | grantTenure (released : s.pins.init = false) (idle : s.current = none) : s.Event s.grantTenure
  | endTenure (released : s.pins.init = false) (holding : s.mastership = .holding) (k : MasterId × Tag) :
      s.Event (s.endFaultReply k)
  | movePrs (asserted : s.pins.init = true) (k : SlotId) (level : Bool) : s.Event (s.movePrs k level)
  | moveBoth (asserted : s.pins.init = true) (k : SlotId) (mode : Mode) : s.Event ((s.movePrs k true).moveMode k mode)
  | presenceLoss (released : s.pins.init = false) (k : SlotId) (hk : k ≠ 0) :
      s.Event ((s.movePrs k false).presenceLoss k)
  | presenceReturn (released : s.pins.init = false) (k : SlotId) (mode : Mode) (hk : k ≠ 0)
      (level : s.prsLevel k = false) :
      s.Event (((s.movePrs k true).moveMode k mode).setSlot k ((s.slot k).returned mode))

/-! ## Address phases -/

theorem State.covers_of_topWindow {space : Space} {unit : Nat} (h : s.topWindow space unit = some w) :
    (s.window w).covers space unit = true := by
  obtain ⟨layer, -, hlayer⟩ := List.exists_of_findSome?_eq_some h
  have hfound := List.find?_some hlayer
  rw [Bool.and_eq_true] at hfound
  exact hfound.1

theorem Window.state_of_covers {win : Window} {space : Space} {unit : Nat} (h : win.covers space unit = true) :
    win.state ≠ .free ∧ win.space = space := by
  simp only [Window.covers, Bool.and_eq_true, bne_iff_ne, beq_iff_eq] at h
  exact h.1

/-- Check 7 selects a window that covers the unit and is not entry 0 (R26, R29, R33). -/
theorem State.verdict_select {space : Space} {unit : Nat} {write : Bool} (h : s.verdict m space unit write = .select
    w) :
    s.Commandable w ∧ (s.window w).space = space := by
  unfold State.verdict at h
  split at h
  · cases h
  · split at h
    · cases h
    · next v htop =>
      split at h
      · cases h
      · split at h
        · split at h
          · cases h
          · next hport =>
            cases h
            obtain ⟨hfree, hspace⟩ := Window.state_of_covers (State.covers_of_topWindow htop)
            exact ⟨⟨hport, hfree⟩, hspace⟩
        · cases h

/-- A SPLIT READ is of MEM space by check 1a, and its units are of 24 address bits (R23, R25). -/
theorem unitOf_mem {a : BusAddress} (h : spaceOf a ≠ .io) : spaceOf a = .mem ∧ unitOf a < Config.units := by
  cases a with
  | mem byte =>
    refine ⟨rfl, ?_⟩
    have := byte.isLt
    simp only [unitOf, Config.units]
    omega
  | io port => exact absurd rfl h

theorem State.Event.portPhase (ready : s.BusReady) (enabled : (s.master m).enabled = true) (a : BusAddress)
    (kind : CycleKind) (width : Width) : s.Event (s.portPhase a m kind width) := by
  unfold State.portPhase
  split
  · split
    · exact .answer ready _
    · exact .serve ready _
  · split
    · exact .answer ready _
    · exact .portWrite ready m enabled _ _
  · exact .answer ready _

theorem State.Event.resolvePhase (ready : s.BusReady) (a : BusAddress) (m : MasterId) (kind : CycleKind)
    (width : Width) : s.Event (s.resolvePhase a m kind width) := by
  unfold State.resolvePhase
  split
  · exact .answer ready _
  · next hdisabled =>
    split
    · exact .answer ready _
    · next hsplit =>
      split
      · exact .answer ready _
      · exact .answer ready _
      · exact .answer ready _
      · exact .answer ready _
      · exact .portPhase ready (by simpa using hdisabled) a kind width
      · next w hverdict =>
        obtain ⟨hw, hspace⟩ := State.verdict_select hverdict
        cases kind with
        | read => exact .select ready m _ w _ hw
        | write data => exact .select ready m _ w _ hw
        | splitRead tag =>
          obtain ⟨hmem, hunit⟩ := unitOf_mem (a := a) (by simpa [isSplit] using hsplit)
          change s.Event (s.splitPhase m tag w (unitOf a))
          unfold State.splitPhase
          split
          · exact .answer ready _
          · split
            · exact .answer ready _
            · exact .reserve ready m tag w _ hw (hspace.trans hmem) hunit

theorem State.Event.addressPhase {a : BusAddress} {kind : CycleKind} {width : Width}
    (h : s.addressPhase a m kind width = .next t) : s.Event t := by
  obtain ⟨-, rfl⟩ | ⟨hi, h⟩ := State.whileRunning_next h
  · exact .nothing
  · obtain ⟨hc, hm, h⟩ := State.onFreeBus_next h
    cases h
    exact .resolvePhase ⟨hi, hc, hm⟩ a m kind width

/-! ## Takes, ends of a cycle, deadlines and replies -/

theorem State.Event.of_take {named : Word → Bool} {effect : MasterId → Captured → State → State}
    (he : ∀ m cmd (a : State), a.Effect m (effect m cmd a)) (h : s.take named effect = .next t) : s.Event t := by
  obtain ⟨-, rfl⟩ | ⟨m, rest, cmd, htakes, -, rfl⟩ := State.take_next h
  · exact .nothing
  · exact .take m rest cmd htakes _ (he m cmd _)

theorem State.Event.acknowledge (hi : s.pins.init = false) (status : Status) : s.Event (s.acknowledge status) := by
  unfold State.acknowledge
  split
  · exact .nothing
  · next c hc =>
    split
    · unfold State.properEnd
      dsimp only
      split
      · exact .acceptedEnd hi c hc _
      · exact .properEnd hi c hc _
    · exact .struckEnd hi c hc _

theorem State.Event.timerExpiry (hi : s.pins.init = false) : s.Event s.timerExpiry := by
  unfold State.timerExpiry
  split
  · exact .nothing
  · next c hc => exact .struckEnd hi c hc _

theorem State.Event.deadlineExpiry (hi : s.pins.init = false) (k : MasterId × Tag) : s.Event (s.deadlineExpiry k) := by
  unfold State.deadlineExpiry
  split
  · exact .nothing
  · next e he =>
    split
    · exact .expire hi e (State.mem_of_entry he).1
    · exact .nothing
    · exact .nothing

theorem State.Event.matchReply (ready : s.BusReady) {k : MasterId × Tag} {source : SlotId} {status : Status}
    (h : s.matchReply k source status = .next t) : s.Event t := by
  unfold State.matchReply at h
  split at h
  · cases h
    exact .voidReply ready _ _
  · next e he =>
    have hmem := (State.mem_of_entry he).1
    split at h
    · cases h
    · split at h
      · cases h
        exact .passWaiting ready e hmem _
      · cases h
        exact .voidReply ready _ _
    · split at h
      · cases h
        exact .passExpired ready e hmem _
      · cases h
        exact .voidReply ready _ _
    · cases h
      exact .voidReply ready _ _

/-! ## Every event -/

/-- An event that INIT holds back, or that is taken. -/
theorem State.Event.running {r : State} (h : s.whileRunning (.next r) = .next t)
    (hr : s.pins.init = false → s.Event r) : s.Event t := by
  obtain ⟨-, rfl⟩ | ⟨hi, h⟩ := State.whileRunning_next h
  · exact .nothing
  · cases h
    exact hr hi

theorem State.Event.of_exec {i : Instr} (h : exec i s = .next t) : s.Event t := by
  cases i with
  | init => cases h; exact .init
  | initRelease prs mode =>
    obtain ⟨hi, h⟩ := Result.ite_next h
    cases h
    exact .release hi prs mode
  | addressPhase a m kind width => exact .addressPhase h
  | go m code width => exact .addressPhase h
  | stagingWrite m n data width => exact .addressPhase h
  | attentionClear m data width => exact .addressPhase h
  | occupancyWrite m data width => exact .addressPhase h
  | abandon m width => exact .addressPhase h
  | badCommand => exact .of_take effect_badCommand (named := fun code => (commandOf code).isNone) h
  | claim => exact .of_take effect_claim h
  | resize => exact .of_take effect_resize h
  | move => exact .of_take effect_move h
  | restack => exact .of_take effect_restack h
  | grant => exact .of_take effect_grant h
  | handover => exact .of_take effect_handover h
  | retire => exact .of_take effect_retire h
  | reinstate => exact .of_take effect_reinstate h
  | setSlot => exact .of_take effect_setSlot h
  | slotOnline => exact .of_take effect_slotOnline h
  | slotOffline => exact .of_take effect_slotOffline h
  | setMaster => exact .of_take effect_setMaster h
  | tune => exact .of_take effect_tune h
  | inspect => exact .of_take effect_inspect h
  | resolve => exact .of_take effect_resolve h
  | properAcknowledge status => exact .running h (.acknowledge · status)
  | improperAcknowledge status => exact .running h (.acknowledge · status)
  | strayAcknowledge status => cases h; exact .nothing
  | acknowledgeTimerExpiry => exact .running h .timerExpiry
  | deadlineExpiry m tag => exact .running h (.deadlineExpiry · (m, tag))
  | replyCycle m tag source data status =>
    obtain ⟨-, rfl⟩ | ⟨hi, h⟩ := State.whileRunning_next h
    · exact .nothing
    · obtain ⟨hc, hm, h⟩ := State.onFreeBus_next h
      exact .matchReply ⟨hi, hc, hm⟩ h
  | mastershipGrant =>
    obtain ⟨-, rfl⟩ | ⟨hi, h⟩ := State.whileRunning_next h
    · exact .nothing
    · split at h
      · cases h
      · next hc =>
        cases h
        exact .grantTenure hi (by simpa using hc)
  | faultReplyEnd =>
    obtain ⟨-, rfl⟩ | ⟨hi, h⟩ := State.whileRunning_next h
    · exact .nothing
    · split at h
      · next k rest hm _ =>
        cases h
        exact .endTenure hi hm k
      · cases h
  | presenceLoss k =>
    obtain ⟨⟨hk, -⟩, h⟩ := Result.ite_next h
    obtain ⟨hi, rfl⟩ | ⟨hi, h⟩ := State.whileRunning_next h
    · exact .movePrs (s := s) hi k false
    · rw [← Host.Outcome.next.inj h]
      exact .presenceLoss (s := s) hi k hk
  | presenceReturn k mode =>
    obtain ⟨⟨hk, hp⟩, h⟩ := Result.ite_next h
    obtain ⟨hi, rfl⟩ | ⟨hi, h⟩ := State.whileRunning_next h
    · exact .moveBoth (s := s) hi k mode
    · rw [← Host.Outcome.next.inj h]
      exact .presenceReturn (s := s) hi k mode hk hp

/-- A step passes time, or runs one event on the state with the rest of the pending commands. -/
theorem step_cases (h : step s = .next t) :
    t = s.tick ∨ ∃ rest, ({ s with pending := rest } : State).Event t := by
  obtain ⟨-, rfl⟩ | ⟨i, rest, -, h⟩ := step_next h
  · exact .inl rfl
  · exact .inr ⟨rest, .of_exec h⟩

end Sys2Proof.Machine
end

section
/-!
PROOFS. The laws of the Registry and of the attention records (O58): the slot records, the master records and the
presence lines are written by INIT, the presence lines and the Registry commands alone, and a reason record by a raise
  or
a clear alone.
-/
namespace Sys2Proof.Machine

variable {s t : State} {m : MasterId} {k : SlotId} {w : WindowId}

/-! ## Frames of the operations that lack one -/

theorem State.goAccept_frame (s : State) (m : MasterId) (code : Word) :
    ∃ contexts queue, s.goAccept m code = { s with contexts := contexts, queue := queue } := by
  unfold State.goAccept
  dsimp only
  split <;> exact ⟨_, _, rfl⟩

theorem State.abandonWrite_frame (s : State) (m : MasterId) :
    ∃ windows contexts queue, s.abandonWrite m = { s with windows := windows, contexts := contexts, queue := queue }
      := by
  unfold State.abandonWrite
  dsimp only
  split
  · exact ⟨s.windows, _, _, rfl⟩
  · split
    · exact ⟨_, _, s.queue, rfl⟩
    · exact ⟨s.windows, _, s.queue, rfl⟩
  · exact ⟨s.windows, _, s.queue, rfl⟩

/-- A port write reaches the windows, the contexts, the command queue and the reason records at most (R31). -/
theorem State.portWrite_frame (s : State) (m : MasterId) (data : Word) (port : Port) :
    ∃ windows contexts queue attention, s.portWrite m data port =
      { s with windows := windows, contexts := contexts, queue := queue, attention := attention } := by
  cases port with
  | context =>
    change ∃ windows contexts queue attention, s.goWrite m data = _
    unfold State.goWrite
    split
    · obtain ⟨windows, contexts, queue, heq⟩ := s.abandonWrite_frame m
      exact ⟨windows, contexts, queue, s.attention, heq⟩
    · obtain ⟨contexts, queue, heq⟩ := s.goAccept_frame m data
      exact ⟨s.windows, contexts, queue, s.attention, heq⟩
  | word n => exact ⟨s.windows, _, s.queue, s.attention, rfl⟩
  | attention =>
    change ∃ windows contexts queue attention, s.attentionWrite m data = _
    unfold State.attentionWrite
    split
    · exact ⟨s.windows, s.contexts, s.queue, _, rfl⟩
    · exact ⟨s.windows, s.contexts, s.queue, s.attention, rfl⟩
  | occupancy => exact ⟨s.windows, s.contexts, s.queue, s.attention, rfl⟩

theorem State.writeMaster_frame (s : State) (k : MasterId) (r : MasterRecord) :
    ∃ contexts queue, s.writeMaster k r = { s.setMaster k r with contexts := contexts, queue := queue } := by
  unfold State.writeMaster
  split
  · exact ⟨s.contexts, s.queue, rfl⟩
  · unfold State.withdrawQueued
    split
    · exact ⟨_, _, rfl⟩
    · exact ⟨s.contexts, s.queue, rfl⟩

@[simp] theorem State.presenceLoss_slots (s : State) (k : SlotId) :
    (s.presenceLoss k).slots = s.slots.set k (s.slot k).lost := by
  rw [s.presenceLoss_eq, State.raise_slots, State.withdrawEntries_slots, State.withdrawCycle_slots,
    State.forceDrain_slots, State.setSlot]

@[simp] theorem State.presenceLoss_masters (s : State) (k : SlotId) : (s.presenceLoss k).masters = s.masters := by
  rw [s.presenceLoss_eq, State.raise_masters, State.withdrawEntries_masters, State.withdrawCycle_masters,
    State.forceDrain_masters, State.setSlot]

@[simp] theorem State.presenceLoss_pins (s : State) (k : SlotId) : (s.presenceLoss k).pins = s.pins := by
  rw [s.presenceLoss_eq, State.raise_pins, State.withdrawEntries_pins, State.withdrawCycle_pins,
    State.forceDrain_pins, State.setSlot]

/-! ## The laws of the Registry -/

/-- The laws that read the slot records, the master records and the input pins alone. -/
structure State.RegistryLaws (s : State) : Prop where
  slots : s.SlotLaw
  presence : s.PresenceLaw
  supervisor : s.SupervisorLaw

theorem State.RegistryLaws.of_fields (h : s.RegistryLaws) (hslots : t.slots = s.slots) (hmasters : t.masters =
    s.masters)
    (hpins : t.pins = s.pins) : t.RegistryLaws := by
  obtain ⟨⟨zero, absent, limits⟩, presence, supervisor⟩ := h
  simp only [State.PresenceLaw, State.SupervisorLaw, State.slot, State.master, State.prsLevel, ← hslots, ← hmasters,
    ← hpins] at zero absent limits presence supervisor
  exact ⟨⟨zero, absent, limits⟩, presence, supervisor⟩

/-- A slot record that the laws allow in place of another (R86, R93). -/
structure SlotRecord.Lawful (r : SlotRecord) (k : SlotId) : Prop where
  zero : k = 0 → r.present = true ∧ r.state = .online
  absent : r.state = .absent ↔ r.present = false
  limits : (1 ≤ r.ackLimit ∧ r.ackLimit ≤ 255) ∧ 1 ≤ r.replyLimit ∧ r.replyLimit ≤ 255

theorem State.SlotLaw.lawful (h : s.SlotLaw) (k : SlotId) : (s.slot k).Lawful k :=
  ⟨fun hk => hk ▸ h.slot_zero, h.absent k, h.limits k⟩

theorem State.slotLaw_of_lawful (h : ∀ k, (s.slot k).Lawful k) : s.SlotLaw :=
  ⟨(h 0).zero rfl, fun k => (h k).absent, fun k => (h k).limits⟩

theorem State.SlotLaw.setSlot (h : s.SlotLaw) {r : SlotRecord} (hr : r.Lawful k) : (s.setSlot k r).SlotLaw := by
  refine State.slotLaw_of_lawful fun j => ?_
  rw [State.slot_setSlot]
  split
  · next hj => exact hj ▸ hr
  · exact h.lawful j

/-- A Registry command on a slot leaves its presence (R93 to R95). -/
theorem State.RegistryLaws.setSlot (h : s.RegistryLaws) {r : SlotRecord} (hr : r.Lawful k)
    (hpresent : r.present = (s.slot k).present) : (s.setSlot k r).RegistryLaws := by
  refine ⟨h.slots.setSlot hr, fun hi j hj => ?_, h.supervisor⟩
  have hlevel := h.presence hi j hj
  rw [State.slot_setSlot]
  split
  · next hjk =>
    subst hjk
    exact hpresent.trans hlevel
  · exact hlevel

theorem State.registryLaws_initialise (h : s.RegistryLaws) : s.initialise.RegistryLaws where
  slots := State.slotLaw_of_lawful fun k => by
    obtain ⟨zero, absent, -⟩ := h.slots.lawful k
    rw [State.slot_initialise]
    exact ⟨zero, absent, by simp [SlotRecord.initLimits, Config.defaultAckLimit, Config.defaultReplyLimit]⟩
  presence := nofun
  supervisor := ⟨0, by rw [State.master_initialise]; decide⟩

theorem releasedSlot_lawful (prs mode : BitVec 16) (k : SlotId) : (releasedSlot prs mode k).Lawful k where
  zero hk := by
    obtain ⟨hpresent, hstate⟩ := releasedSlot_eq (prs := prs) (k := k) (seated := true) (by simp [hk]) mode
    exact ⟨hpresent, hstate⟩
  absent := by
    obtain ⟨hpresent, hstate⟩ := releasedSlot_eq (prs := prs) (k := k) rfl mode
    rw [hpresent, hstate]
    cases (k == 0 || prs.getLsbD k.val) <;> decide
  limits := by simp [releasedSlot, Config.defaultAckLimit, Config.defaultReplyLimit]

theorem State.registryLaws_release (s : State) (prs mode : BitVec 16) : (s.release prs mode).RegistryLaws where
  slots := State.slotLaw_of_lawful fun k => by
    rw [State.slot_release]
    exact releasedSlot_lawful prs mode k
  presence _ k hk := by
    rw [State.slot_release, State.prsLevel_release]
    simp [releasedSlot, bne, beq_eq_false_iff_ne.2 hk]
  supervisor := ⟨0, by rw [State.master_release]; decide⟩

/-- A line that moves with the slot's record (R86, R89, R92). -/
theorem State.RegistryLaws.moveSlot (h : s.RegistryLaws) {r : SlotRecord} (hr : r.Lawful k)
    (hslots : t.slots = s.slots.set k r) (hmasters : t.masters = s.masters)
    (hpins : t.pins.init = s.pins.init ∧ t.pins.prs = s.pins.prs.set k r.present) : t.RegistryLaws := by
  have hslot (j : SlotId) : t.slot j = (s.setSlot k r).slot j := by
    rw [State.slot, hslots, State.slot]
    rfl
  obtain ⟨hinit, hprs⟩ := hpins
  refine ⟨State.slotLaw_of_lawful fun j => ?_, fun hi j hj => ?_, ?_⟩
  · rw [hslot]
    exact (h.slots.setSlot hr).lawful j
  · have hlevel := h.presence (hinit ▸ hi) j hj
    rw [hslot, State.slot_setSlot, State.prsLevel, hprs]
    by_cases hjk : j = k
    · simp [hjk]
    · have hval : k.val ≠ j.val := fun hv => hjk (Fin.ext hv.symm)
      simpa [State.prsLevel, hjk, Vector.getElem_set, hval] using hlevel
  · simpa only [State.SupervisorLaw, State.master, hmasters] using h.supervisor

theorem State.RegistryLaws.writeMaster (h : s.RegistryLaws) (k : MasterId) (r : MasterRecord)
    (hsup : (s.setMaster k r).hasSupervisor = true) : (s.writeMaster k r).RegistryLaws := by
  obtain ⟨contexts, queue, heq⟩ := s.writeMaster_frame k r
  rw [heq]
  exact ⟨⟨h.slots.slot_zero, h.slots.absent, h.slots.limits⟩, h.presence, State.hasSupervisor_iff.1 hsup⟩

/-- Every command keeps the laws of the Registry: a limit is checked, slot 0 is never taken offline, and the last
supervisor stays (R93 to R98). -/
theorem State.RegistryLaws.effect (h : s.RegistryLaws) (he : s.Effect m t) : t.RegistryLaws := by
  cases he with
  | completes code ws => exact h.of_fields rfl rfl rfl
  | writes w r ws hr => exact h.of_fields rfl rfl rfl
  | awaits w r hr => exact h.of_fields rfl rfl rfl
  | retires w ws named serving => exact h.of_fields (by simp) (by simp) (by simp)
  | setsLimits k ack reply ws hack hreply =>
    obtain ⟨zero, absent, -⟩ := h.slots.lawful k
    have hset := h.setSlot (k := k) (r := (s.slot k).withLimits ack.toNat reply.toNat)
      ⟨zero, absent, (limitOk_iff ack).1 hack, (limitOk_iff reply).1 hreply⟩ rfl
    exact hset.of_fields rfl rfl rfl
  | putsOnline k ws offline =>
    obtain ⟨zero, absent, limits⟩ := h.slots.lawful k
    have hset := h.setSlot (k := k) (r := (s.slot k).withState .online)
      ⟨fun hk => ⟨(zero hk).1, rfl⟩, iff_of_false nofun fun hp => by simpa [offline] using absent.2 hp, limits⟩ rfl
    exact hset.of_fields rfl rfl rfl
  | takesOffline k ws hk online =>
    obtain ⟨zero, absent, limits⟩ := h.slots.lawful k
    have hset := h.setSlot (k := k) (r := (s.slot k).withState .offline)
      ⟨fun h0 => absurd h0 hk, iff_of_false nofun fun hp => by simpa [online] using absent.2 hp, limits⟩ rfl
    exact hset.of_fields (by simp) (by simp) (by simp)
  | writesMaster k r ws supervised => exact (h.writeMaster k r supervised).of_fields rfl rfl rfl
  | tunes limit sel ws bound =>
    obtain ⟨windows, strikeLimit, selection, heq⟩ := s.tuned_frame limit sel
    rw [heq]
    exact h.of_fields rfl rfl rfl

theorem State.RegistryLaws.event (h : s.RegistryLaws) (he : s.Event t) : t.RegistryLaws := by
  cases he with
  | nothing => exact h
  | init => exact State.registryLaws_initialise h
  | release asserted prs mode => exact s.registryLaws_release prs mode
  | answer ready status => exact h.of_fields rfl rfl rfl
  | serve ready data => exact h.of_fields rfl rfl rfl
  | portWrite ready m enabled data port =>
    obtain ⟨windows, contexts, queue, attention, heq⟩ := s.portWrite_frame m data port
    rw [heq]
    exact h.of_fields rfl rfl rfl
  | select ready m kind w unit named => exact h.of_fields rfl rfl rfl
  | reserve ready m tag w unit named mem within => exact h.of_fields rfl rfl rfl
  | take m rest cmd takes t effect =>
    have taking : (s.taking m rest).RegistryLaws := h.of_fields rfl rfl rfl
    exact taking.effect effect
  | properEnd released c current ast => exact h.of_fields (by simp) (by simp) (by simp)
  | acceptedEnd released c current ast => exact h.of_fields (by simp) (by simp) (by simp)
  | struckEnd released c current ast => exact h.of_fields (by simp) (by simp) (by simp)
  | expire released e mem =>
    obtain ⟨windows, mastership, attention, heq⟩ := s.expireEntry_frame e
    rw [heq]
    exact h.of_fields rfl rfl rfl
  | voidReply ready source status => exact h.of_fields rfl rfl rfl
  | passWaiting ready e mem status =>
    obtain ⟨windows, contexts, heq⟩ := s.passWaiting_frame e status
    rw [heq]
    exact h.of_fields rfl rfl rfl
  | passExpired ready e mem status =>
    obtain ⟨windows, contexts, mastership, heq⟩ := s.passExpired_frame e status
    rw [heq]
    exact h.of_fields rfl rfl rfl
  | grantTenure released idle =>
    unfold State.grantTenure
    split <;> exact h.of_fields rfl rfl rfl
  | endTenure released holding k =>
    unfold State.endFaultReply
    split
    · exact h.of_fields (by simp) (by simp) (by simp)
    · exact h.of_fields rfl rfl rfl
  | movePrs asserted k level => exact ⟨⟨h.slots.slot_zero, h.slots.absent, h.slots.limits⟩,
      fun released => by simp [asserted] at released, h.supervisor⟩
  | moveBoth asserted k mode => exact ⟨⟨h.slots.slot_zero, h.slots.absent, h.slots.limits⟩,
      fun released => by simp [State.moveMode, asserted] at released, h.supervisor⟩
  | presenceLoss released k hk =>
    obtain ⟨-, -, limits⟩ := h.slots.lawful k
    exact h.moveSlot (k := k) (r := (s.slot k).lost) ⟨fun h0 => absurd h0 hk, iff_of_true rfl rfl, limits⟩
      (State.presenceLoss_slots _ k) (State.presenceLoss_masters _ k)
      ⟨(congrArg Pins.init ((s.movePrs k false).presenceLoss_pins k)).trans rfl,
        (congrArg Pins.prs ((s.movePrs k false).presenceLoss_pins k)).trans rfl⟩
  | presenceReturn released k mode hk level =>
    obtain ⟨-, -, limits⟩ := h.slots.lawful k
    exact h.moveSlot (k := k) (r := (s.slot k).returned mode)
      ⟨fun h0 => absurd h0 hk, iff_of_false nofun nofun, limits⟩ rfl rfl ⟨rfl, rfl⟩

/-! ## The attention records (R155, R156) -/

theorem ReasonRecord.sound_clear : ReasonRecord.clear.Sound := ⟨rfl, by decide, by decide⟩

theorem ReasonRecord.Sound.raise {r : ReasonRecord} (h : r.Sound) (subject : Nat) : (r.raise subject).Sound := by
  obtain ⟨hsubject, hcount, hmax⟩ := h
  unfold ReasonRecord.raise
  split
  · next hr =>
    have := hcount.1 hr
    simp only [ReasonRecord.Sound, Config.countMax]
    exact ⟨hsubject, iff_of_true hr (by omega), by omega⟩
  · simp [ReasonRecord.Sound, Config.countMax]

theorem State.AttentionLaw.of_attention (h : s.AttentionLaw) (ha : t.attention = s.attention) : t.AttentionLaw := by
  rw [State.AttentionLaw, ha]
  exact h

theorem State.attentionLaw_iff :
    s.AttentionLaw ↔ s.attention.suspended.Sound ∧ s.attention.slotLost.Sound ∧ s.attention.orphanReply.Sound :=
  ⟨fun h => ⟨h .suspended, h .slotLost, h .orphanReply⟩, fun ⟨hsuspended, hslotLost, horphan⟩ r =>
    match r with
    | .suspended => hsuspended
    | .slotLost => hslotLost
    | .orphanReply => horphan⟩

theorem State.AttentionLaw.raise (h : s.AttentionLaw) (r : Reason) (subject : Nat) : (s.raise r subject).AttentionLaw
    := by
  have hr := (h r).raise subject
  obtain ⟨hsuspended, hslotLost, horphan⟩ := State.attentionLaw_iff.1 h
  cases r with
  | suspended => exact State.attentionLaw_iff.2 ⟨hr, hslotLost, horphan⟩
  | slotLost => exact State.attentionLaw_iff.2 ⟨hsuspended, hr, horphan⟩
  | orphanReply => exact State.attentionLaw_iff.2 ⟨hsuspended, hslotLost, hr⟩

theorem State.AttentionLaw.strike (h : s.AttentionLaw) (w : WindowId) : (s.strike w).AttentionLaw := by
  by_cases ha : (s.window w).state = .active
  · by_cases hl : (s.window w).strikes + 1 = s.strikeLimit
    · rw [State.strike_limit ha hl]
      exact State.AttentionLaw.raise (h.of_attention rfl) _ _
    · rw [State.strike_below ha hl]
      exact h.of_attention rfl
  · rw [State.strike_inactive ha]
    exact h

theorem State.AttentionLaw.portWrite (h : s.AttentionLaw) (m : MasterId) (data : Word) (port : Port) :
    (s.portWrite m data port).AttentionLaw := by
  cases port with
  | context =>
    change (s.goWrite m data).AttentionLaw
    unfold State.goWrite
    split
    · obtain ⟨windows, contexts, queue, heq⟩ := s.abandonWrite_frame m
      exact h.of_attention (by rw [heq])
    · obtain ⟨contexts, queue, heq⟩ := s.goAccept_frame m data
      exact h.of_attention (by rw [heq])
  | word n => exact h.of_attention rfl
  | attention =>
    change (s.attentionWrite m data).AttentionLaw
    unfold State.attentionWrite
    split
    · have cleared (b : Bool) {r : ReasonRecord} (hr : r.Sound) : (if b then .clear else r).Sound := by
        cases b
        · exact hr
        · exact ReasonRecord.sound_clear
      obtain ⟨hsuspended, hslotLost, horphan⟩ := State.attentionLaw_iff.1 h
      exact State.attentionLaw_iff.2 ⟨cleared _ hsuspended, cleared _ hslotLost, cleared _ horphan⟩
    · exact h
  | occupancy => exact h

/-- No command reaches the reason records. -/
theorem State.Effect.attention (he : s.Effect m t) : t.attention = s.attention := by
  cases he with
  | completes code ws => rfl
  | writes w r ws hr => rfl
  | awaits w r hr => rfl
  | retires w ws named serving => simp
  | setsLimits k ack reply ws hack hreply => rfl
  | putsOnline k ws offline => rfl
  | takesOffline k ws hk online => simp
  | writesMaster k r ws supervised =>
    obtain ⟨contexts, queue, heq⟩ := s.writeMaster_frame k r
    rw [heq]
    rfl
  | tunes limit sel ws bound =>
    obtain ⟨windows, strikeLimit, selection, heq⟩ := s.tuned_frame limit sel
    rw [heq]
    rfl

theorem State.attention_initialise (s : State) : s.initialise.attention = .clear := by
  rw [State.initialise]

theorem State.attention_release (s : State) (prs mode : BitVec 16) : (s.release prs mode).attention = s.attention := by
  rw [State.release, State.initRegistry]

theorem State.AttentionLaw.event (h : s.AttentionLaw) (he : s.Event t) : t.AttentionLaw := by
  cases he with
  | nothing => exact h
  | init =>
    rw [State.attentionLaw_iff, State.attention_initialise]
    exact ⟨ReasonRecord.sound_clear, ReasonRecord.sound_clear, ReasonRecord.sound_clear⟩
  | release asserted prs mode => exact h.of_attention (s.attention_release prs mode)
  | answer ready status => exact h.of_attention rfl
  | serve ready data => exact h.of_attention rfl
  | portWrite ready m enabled data port => exact (h.portWrite m data port).of_attention rfl
  | select ready m kind w unit named => exact h.of_attention rfl
  | reserve ready m tag w unit named mem within => exact h.of_attention rfl
  | take m rest cmd takes t effect => exact h.of_attention effect.attention
  | properEnd released c current ast => exact h.of_attention (by simp)
  | acceptedEnd released c current ast => exact h.of_attention (by simp)
  | struckEnd released c current ast => exact (h.strike c.window).of_attention (by simp)
  | expire released e mem =>
    have queued : (s.queueSilent e).AttentionLaw := h.of_attention rfl
    rw [State.expireEntry_eq]
    exact (queued.strike e.window).of_attention (by simp)
  | voidReply ready source status => exact State.AttentionLaw.raise (h.of_attention rfl) _ _
  | passWaiting ready e mem status => exact h.of_attention (by simp [State.passWaiting])
  | passExpired ready e mem status => exact h.of_attention (by simp [State.passExpired])
  | grantTenure released idle =>
    unfold State.grantTenure
    split <;> exact h.of_attention rfl
  | endTenure released holding k =>
    unfold State.endFaultReply
    split
    · exact h.of_attention (by simp)
    · exact h.of_attention rfl
  | movePrs asserted k level => exact h.of_attention rfl
  | moveBoth asserted k mode => exact h.of_attention rfl
  | presenceLoss released k hk =>
    rw [State.presenceLoss_eq]
    exact State.AttentionLaw.raise (h.of_attention (by simp)) _ _
  | presenceReturn released k mode hk level => exact h.of_attention rfl

/-- Settles O58: the clocks reach none of the four laws, and every event keeps them. -/
theorem registryAndAttentionLawsKept : Obligations.RegistryAndAttentionLawsKept := by
  intro s t hslots hpresence hsupervisor hattention hx
  have registry : s.RegistryLaws := ⟨hslots, hpresence, hsupervisor⟩
  have kept : t.RegistryLaws ∧ t.AttentionLaw := by
    obtain rfl | ⟨rest, he⟩ := step_cases hx
    · exact ⟨registry.of_fields rfl rfl rfl, hattention.of_attention rfl⟩
    · have registry' : ({ s with pending := rest } : State).RegistryLaws := registry.of_fields rfl rfl rfl
      have attention' : ({ s with pending := rest } : State).AttentionLaw := hattention.of_attention rfl
      exact ⟨registry'.event he, attention'.event he⟩
  obtain ⟨⟨slots, presence, supervisor⟩, attention⟩ := kept
  exact ⟨slots, presence, supervisor, attention⟩

end Sys2Proof.Machine
end

section
/-!
PROOFS. The laws of the Window Table (O59): what each operation on a window leaves true of its record, of the units that
windows cover and of the references in flight. The slots in service are a parameter of the laws, since a loss of
  presence
and a SLOT OFFLINE write the slot first and drain its windows after.
-/
namespace Sys2Proof.Machine

variable {s t : State} {m : MasterId} {k : SlotId} {w : WindowId} {c : CurrentCycle} {e : OrtEntry}
  {online online' : SlotId → Prop}

/-! ## The laws -/

/-- What the laws say of one window record, by the slots that are in service and the strike limit (R1, R2, R4, R8,
R51). -/
structure Window.Lawful (win : Window) (online : SlotId → Prop) (limit : Nat) : Prop where
  cleared : win.state = .free → win = .cleared
  range : win.state ≠ .free → rangeOk win.base win.length win.target = true
  pending : ∀ c ∈ win.change, rangeOk c.base c.length c.target = true
  service : win.state ≠ .free → win.state ≠ .draining → online win.slot
  bound : ∀ c ∈ win.change, online c.slot
  strikes : win.state = .active ∨ win.state = .held → win.strikes < limit
  strikes_le : win.strikes ≤ 15

/-- The laws that read the Window Table, the strike limit and what is in flight (R2, R4, R8, R10, R17, R19, R51, R60).
-/
structure State.TableLaws (s : State) (online : SlotId → Prop) : Prop where
  port : s.PortLaw
  limit : 1 ≤ s.strikeLimit ∧ s.strikeLimit ≤ 15
  window : ∀ w, (s.window w).Lawful online s.strikeLimit
  overlap : s.OverlapLaw
  reference : s.ReferenceLaw

/-- The slots in service (R4). -/
def State.Online (s : State) (k : SlotId) : Prop := (s.slot k).state = .online

theorem State.TableLaws.rangeLaw (h : s.TableLaws online) : s.RangeLaw := fun w => ⟨(h.window w).range, (h.window
    w).pending⟩

/-- The device's laws of the Window Table, law by law. -/
theorem State.tableLaws_iff : s.TableLaws s.Online ↔ s.PortLaw ∧ s.ClearedLaw ∧ s.RangeLaw ∧ s.OverlapLaw ∧ s.ServiceLaw
    ∧ s.StrikeLaw ∧ s.ReferenceLaw := by
  constructor
  · intro h
    exact ⟨h.port, fun w => (h.window w).cleared, h.rangeLaw, h.overlap,
      fun w => ⟨(h.window w).service, (h.window w).bound⟩,
      ⟨h.limit, fun w => ⟨(h.window w).strikes, (h.window w).strikes_le⟩⟩, h.reference⟩
  · rintro ⟨port, cleared, range, overlap, service, ⟨limit, strikes⟩, reference⟩
    exact ⟨port, limit, fun w => ⟨cleared w, (range w).1, (range w).2, (service w).1, (service w).2, (strikes w).1,
      (strikes w).2⟩, overlap, reference⟩

theorem Window.lawful_cleared (online : SlotId → Prop) (limit : Nat) : Window.cleared.Lawful online limit where
  cleared _ := rfl
  range h := absurd rfl h
  pending := nofun
  service h := absurd rfl h
  bound := nofun
  strikes := nofun
  strikes_le := Nat.zero_le _

/-- Entry 0 is ACTIVE and is no window that waits, drains or is FREE (R19). -/
theorem State.TableLaws.ne_zero (h : s.TableLaws online) (hs : (s.window w).state ≠ .active) : w ≠ 0 := by
  rintro rfl
  rw [show s.window 0 = .directoryPort from h.port] at hs
  exact hs rfl

/-! ## Slots in service -/

/-- The laws by other slots in service, when the windows in service and their changes are on such slots. -/
theorem State.TableLaws.serving (h : s.TableLaws online)
    (hservice : ∀ w, (s.window w).state ≠ .free → (s.window w).state ≠ .draining → online' (s.window w).slot)
    (hbound : ∀ w, ∀ c ∈ (s.window w).change, online' c.slot) : s.TableLaws online' where
  port := h.port
  limit := h.limit
  window w := ⟨(h.window w).cleared, (h.window w).range, (h.window w).pending, hservice w, hbound w, (h.window
    w).strikes,
    (h.window w).strikes_le⟩
  overlap := h.overlap
  reference := h.reference

theorem State.TableLaws.mono (h : s.TableLaws online) (hk : ∀ k, online k → online' k) : s.TableLaws online' :=
  h.serving (fun w hf hd => hk _ ((h.window w).service hf hd)) fun w c hc => hk _ ((h.window w).bound c hc)

/-! ## Events that leave the windows -/

/-- What is in flight after an event that adds nothing to it. -/
theorem State.ReferenceLaw.of_inFlight (h : s.ReferenceLaw) (hwindow : ∀ w, t.window w = s.window w)
    (hort : ∀ e ∈ t.ort, ∃ d ∈ s.ort, d.window = e.window ∧ d.slot = e.slot ∧ d.unit = e.unit)
    (hcurrent : ∀ c, t.current = some c → ∃ d, s.current = some d ∧ d.window = c.window ∧ d.slot = c.slot) :
    t.ReferenceLaw where
  entry e he := by
    obtain ⟨d, hd, hw, hk, hu⟩ := hort e he
    rw [hwindow, ← hw, ← hk, ← hu]
    exact h.entry d hd
  cycle c hc := by
    obtain ⟨d, hd, hw, hk⟩ := hcurrent c hc
    rw [hwindow, ← hw, ← hk]
    exact h.cycle d hd

theorem State.TableLaws.of_windows (h : s.TableLaws online) (hwindows : t.windows = s.windows)
    (hlimit : t.strikeLimit = s.strikeLimit) (href : t.ReferenceLaw) : t.TableLaws online := by
  have hwindow (w : WindowId) : t.window w = s.window w := by rw [State.window, hwindows, State.window]
  refine ⟨(hwindow 0).trans h.port, hlimit ▸ h.limit, fun w => ?_, fun v w => ?_, href⟩
  · rw [hwindow, hlimit]
    exact h.window w
  · rw [hwindow, hwindow]
    exact h.overlap v w

/-- An event that leaves the windows, the strike limit and what is in flight. -/
theorem State.TableLaws.of_fields (h : s.TableLaws online) (hwindows : t.windows = s.windows)
    (hlimit : t.strikeLimit = s.strikeLimit) (hort : t.ort = s.ort) (hcurrent : t.current = s.current) :
    t.TableLaws online := by
  refine h.of_windows hwindows hlimit (h.reference.of_inFlight (fun w => ?_) (fun e he => ?_) fun c hc => ?_)
  · rw [State.window, hwindows, State.window]
  · exact ⟨e, hort ▸ he, rfl, rfl, rfl⟩
  · exact ⟨c, hcurrent ▸ hc, rfl, rfl⟩

/-- An event that leaves the windows and takes away from what is in flight (R10, R81). -/
theorem State.TableLaws.of_fewer (h : s.TableLaws online) (hwindows : t.windows = s.windows)
    (hlimit : t.strikeLimit = s.strikeLimit) (hort : ∀ e ∈ t.ort, e ∈ s.ort)
    (hcurrent : ∀ c, t.current = some c → s.current = some c) : t.TableLaws online := by
  refine h.of_windows hwindows hlimit (h.reference.of_inFlight (fun w => ?_) (fun e he => ?_) fun c hc => ?_)
  · rw [State.window, hwindows, State.window]
  · exact ⟨e, hort e he, rfl, rfl, rfl⟩
  · exact ⟨c, hcurrent c hc, rfl, rfl⟩

/-! ## One window written -/

/-- A window other than entry 0 is written: its new record is lawful, covers no unit at the layer of another window, and
keeps what the references to it rely on. -/
theorem State.TableLaws.setWindow (h : s.TableLaws online) (hw : w ≠ 0) {r : Window}
    (hr : r.Lawful online s.strikeLimit)
    (hcover : ∀ v, v ≠ w → ∀ space unit, (s.window v).covers space unit = true → r.covers space unit = true →
      (s.window v).layer ≠ r.layer)
    (href : s.Referenced w → r.state ≠ .free ∧ r.slot = (s.window w).slot ∧ r.space = (s.window w).space) :
    (s.setWindow w r).TableLaws online where
  port := (s.window_setWindow_ne r hw.symm).trans h.port
  limit := h.limit
  window v := by
    rw [State.window_setWindow]
    split
    · exact hr
    · exact h.window v
  overlap u v huv space unit hu hv := by
    rw [State.window_setWindow] at hu hv ⊢
    rw [State.window_setWindow]
    split at hu
    · next huw =>
      rw [if_pos huw]
      rw [if_neg (huw ▸ huv.symm)] at hv ⊢
      exact (hcover v (huw ▸ huv.symm) space unit hv hu).symm
    · next huw =>
      rw [if_neg huw]
      split at hv
      · next hvw =>
        rw [if_pos hvw]
        exact hcover u huw space unit hu hv
      · next hvw =>
        rw [if_neg hvw]
        exact h.overlap u v huv space unit hu hv
  reference := by
    refine ⟨fun e he => ?_, fun c hc => ?_⟩
    · obtain ⟨hport, hfree, hslot, hspace, hunit⟩ := h.reference.entry e he
      rw [State.window_setWindow]
      split
      · next hew =>
        obtain ⟨hfree', hslot', hspace'⟩ := href (.inl ⟨e, he, hew⟩)
        rw [hew] at hslot hspace
        exact ⟨hport, hfree', hslot'.trans hslot, hspace'.trans hspace, hunit⟩
      · exact ⟨hport, hfree, hslot, hspace, hunit⟩
    · obtain ⟨hport, hfree, hslot⟩ := h.reference.cycle c hc
      rw [State.window_setWindow]
      split
      · next hcw =>
        obtain ⟨hfree', hslot', -⟩ := href (.inr ⟨c, hc, hcw⟩)
        rw [hcw] at hslot
        exact ⟨hport, hfree', hslot'.trans hslot⟩
      · exact ⟨hport, hfree, hslot⟩

/-- The record covers no unit that the other does not, at the same layer. -/
structure Window.Narrows (r win : Window) : Prop where
  layer : r.layer = win.layer
  covers : ∀ space unit, r.covers space unit = true → win.covers space unit = true

/-- A window other than entry 0 is written with a record that covers no more. -/
theorem State.TableLaws.narrow (h : s.TableLaws online) (hw : w ≠ 0) {r : Window}
    (hr : r.Lawful online s.strikeLimit) (hn : r.Narrows (s.window w))
    (href : s.Referenced w → r.state ≠ .free ∧ r.slot = (s.window w).slot ∧ r.space = (s.window w).space) :
    (s.setWindow w r).TableLaws online :=
  h.setWindow hw hr (fun v hv space unit hc hrc => hn.layer ▸ h.overlap v w hv space unit hc (hn.covers space unit hrc))
    href

/-- A record that differs in what no unit and no reference depends on. -/
structure Window.SamePlace (r win : Window) : Prop where
  state : r.state ≠ .free
  space : r.space = win.space
  base : r.base = win.base
  length : r.length = win.length
  layer : r.layer = win.layer
  slot : r.slot = win.slot
  pending : ∀ unit, r.inPending unit = true → win.inPending unit = true

theorem Window.SamePlace.narrows {r win : Window} (h : r.SamePlace win) (hf : win.state ≠ .free) : r.Narrows win where
  layer := h.layer
  covers space unit hc := by
    simp only [Window.covers, Bool.and_eq_true, Bool.or_eq_true, bne_iff_ne, beq_iff_eq,
      h.space, h.base, h.length] at hc ⊢
    obtain ⟨⟨-, hspace⟩, hunit⟩ := hc
    exact ⟨⟨hf, hspace⟩, hunit.imp_right (h.pending unit)⟩

theorem State.TableLaws.samePlace (h : s.TableLaws online) (hw : s.Commandable w) {r : Window}
    (hr : r.Lawful online s.strikeLimit) (hp : r.SamePlace (s.window w)) : (s.setWindow w r).TableLaws online :=
  h.narrow hw.notPort hr (hp.narrows hw.notFree) fun _ => ⟨hp.state, hp.slot, hp.space⟩

/-- A window that nothing names becomes FREE (R147). -/
theorem State.TableLaws.free (h : s.TableLaws online) (hw : w ≠ 0) (hu : ¬ s.Referenced w) :
    (s.setWindow w .cleared).TableLaws online :=
  h.setWindow hw (Window.lawful_cleared _ _) (fun v _ space unit _ hc => by simp [Window.covers, Window.cleared] at hc)
    fun href => absurd href hu

end Sys2Proof.Machine
end

section
/-!
PROOFS. The operations on one window keep the laws of the Window Table (O59): strikes and clears, the drain check, the
removal of an entry, the end of a cycle and a forced drain.
-/
namespace Sys2Proof.Machine

variable {s t : State} {m : MasterId} {k : SlotId} {w : WindowId} {c : CurrentCycle} {e : OrtEntry} {win : Window}
  {online online' : SlotId → Prop} {limit : Nat}

/-! ## Records -/

theorem Window.Lawful.struck (h : win.Lawful online limit) (hs : win.state = .active) (hl : win.strikes + 1 ≠ limit)
    (hlimit : limit ≤ 15) : win.struck.Lawful online limit := by
  have hbelow := h.strikes (.inl hs)
  have hstrikes : win.strikes + 1 < limit := by omega
  exact ⟨fun hf => by simp [Window.struck, hs] at hf, h.range, h.pending, h.service, h.bound, fun _ => hstrikes,
    show win.strikes + 1 ≤ 15 by omega⟩

theorem Window.Lawful.suspended (h : win.Lawful online limit) (hs : win.state = .active) (hl : win.strikes + 1 = limit)
    (hlimit : limit ≤ 15) : win.struck.suspend.Lawful online limit :=
  ⟨nofun, fun _ => h.range (by simp [hs]), h.pending, fun _ _ => h.service (by simp [hs]) (by simp [hs]), h.bound,
    fun hs => hs.elim nofun nofun, show win.strikes + 1 ≤ 15 by omega⟩

/-- Strikes at 0 are below any limit (R51, R100). -/
theorem Window.Lawful.unstruck (h : win.Lawful online limit) {limit' : Nat} (hlimit : 1 ≤ limit') :
    win.unstruck.Lawful online limit' where
  cleared hf := by rw [h.cleared hf]; rfl
  range := h.range
  pending := h.pending
  service := h.service
  bound := h.bound
  strikes _ := hlimit
  strikes_le := Nat.zero_le _

/-- A window that leaves HELD without its change stays on its slot, which is in service (R117, R135). -/
theorem Window.Lawful.released (h : win.Lawful online limit) (hs : win.state = .held) : win.released.Lawful online
    limit where
  cleared := nofun
  range _ := h.range (by simp [hs])
  pending := nofun
  service _ _ := h.service (by simp [hs]) (by simp [hs])
  bound := nofun
  strikes _ := h.strikes (.inr hs)
  strikes_le := h.strikes_le

/-- A window that takes its pending change (R133). -/
theorem Window.Lawful.applied (h : win.Lawful online limit) (hs : win.state = .held) {c : PendingChange}
    (hc : win.change = some c) : ((win.reshaped c).released).Lawful online limit where
  cleared := nofun
  range _ := h.pending c hc
  pending := nofun
  service _ _ := h.bound c hc
  bound := nofun
  strikes _ := h.strikes (.inr hs)
  strikes_le := h.strikes_le

theorem Window.Lawful.forceDrained (h : win.Lawful online limit) (hf : win.state ≠ .free) :
    win.forceDrained.Lawful online limit where
  cleared := nofun
  range _ := h.range hf
  pending := nofun
  service _ hd := absurd rfl hd
  bound := nofun
  strikes hs := hs.elim nofun nofun
  strikes_le := h.strikes_le

theorem Window.samePlace_struck (hf : win.state ≠ .free) : win.struck.SamePlace win :=
  ⟨hf, rfl, rfl, rfl, rfl, rfl, fun _ h => h⟩

theorem Window.samePlace_unstruck (hf : win.state ≠ .free) : win.unstruck.SamePlace win :=
  ⟨hf, rfl, rfl, rfl, rfl, rfl, fun _ h => h⟩

theorem Window.samePlace_suspend (win : Window) : win.struck.suspend.SamePlace win :=
  ⟨nofun, rfl, rfl, rfl, rfl, rfl, nofun⟩

theorem Window.samePlace_released (win : Window) : win.released.SamePlace win :=
  ⟨nofun, rfl, rfl, rfl, rfl, rfl, nofun⟩

theorem Window.samePlace_forceDrained (win : Window) : win.forceDrained.SamePlace win :=
  ⟨nofun, rfl, rfl, rfl, rfl, rfl, nofun⟩

/-- The pending range is covered while the change waits, so a window that takes it covers no more (R16). -/
theorem Window.narrows_applied (hs : win.state = .held) {c : PendingChange} (hc : win.change = some c) :
    ((win.reshaped c).released).Narrows win where
  layer := rfl
  covers space unit h := by
    simp only [Window.covers, Window.released, Window.reshaped, Window.inPending, Bool.and_eq_true, beq_iff_eq,
      Bool.or_false, hs, hc, Bool.or_eq_true] at h ⊢
    obtain ⟨⟨-, hspace⟩, hunit⟩ := h
    exact ⟨⟨rfl, hspace⟩, .inr hunit⟩

/-! ## Strikes and clears (R48, R49) -/

theorem State.TableLaws.strike (h : s.TableLaws online) (hw : w ≠ 0) : (s.strike w).TableLaws online := by
  by_cases ha : (s.window w).state = .active
  · have hf : (s.window w).state ≠ .free := by simp [ha]
    by_cases hl : (s.window w).strikes + 1 = s.strikeLimit
    · rw [State.strike_limit ha hl]
      have hset := h.samePlace ⟨hw, hf⟩ ((h.window w).suspended ha hl h.limit.2) (Window.samePlace_suspend _)
      exact hset.of_fields rfl rfl rfl rfl
    · rw [State.strike_below ha hl]
      exact h.samePlace ⟨hw, hf⟩ ((h.window w).struck ha hl h.limit.2) (Window.samePlace_struck hf)
  · rw [State.strike_inactive ha]
    exact h

theorem State.TableLaws.strikeClear (h : s.TableLaws online) (hw : w ≠ 0) : (s.strikeClear w).TableLaws online := by
  by_cases ha : (s.window w).state = .active
  · have hf : (s.window w).state ≠ .free := by simp [ha]
    rw [State.strikeClear_active ha]
    exact h.samePlace ⟨hw, hf⟩ ((h.window w).unstruck h.limit.1) (Window.samePlace_unstruck hf)
  · rw [State.strikeClear_inactive ha]
    exact h

/-! ## The drain check (R133, R145, R147) -/

theorem State.TableLaws.completeWaiter (h : s.TableLaws online) (o : Option MasterId) (code : ResultCode) (ws : Words) :
    (s.completeWaiter o code ws).TableLaws online := h.of_fields (by simp) (by simp) (by simp) (by simp)

theorem State.TableLaws.complete (h : s.TableLaws online) (m : MasterId) (code : ResultCode) (ws : Words) :
    (s.complete m code ws).TableLaws online := h.of_fields rfl rfl rfl rfl

theorem State.TableLaws.applyChange (h : s.TableLaws online) (hs : (s.window w).state = .held) (hu : ¬ s.Referenced w) :
    (s.applyChange w).TableLaws online := by
  cases hc : (s.window w).change with
  | none =>
    simp only [State.applyChange, hc]
    exact h
  | some c =>
    rw [State.applyChange_some hc]
    refine State.TableLaws.completeWaiter ?_ _ _ _
    have hw := h.ne_zero (w := w) (by simp [hs])
    have hlawful := (h.window w).applied hs hc
    have hnarrow := Window.narrows_applied hs hc
    unfold State.appliedWindow
    split
    · exact h.narrow hw (hlawful.unstruck h.limit.1) ⟨hnarrow.layer, hnarrow.covers⟩ fun href => absurd href hu
    · exact h.narrow hw hlawful hnarrow fun href => absurd href hu

theorem State.TableLaws.becomeFree (h : s.TableLaws online) (hw : w ≠ 0) (hu : ¬ s.Referenced w) :
    (s.becomeFree w).TableLaws online := by
  rw [State.becomeFree, State.setWindow_completeWaiter]
  exact (h.free hw hu).completeWaiter _ _ _

theorem State.TableLaws.drainCheck (h : s.TableLaws online) (w : WindowId) : (s.drainCheck w).TableLaws online := by
  by_cases hu : s.Referenced w
  · rw [State.drainCheck_referenced hu]
    exact h
  cases hs : (s.window w).state with
  | held =>
    rw [State.drainCheck_held hu hs]
    exact h.applyChange hs hu
  | draining =>
    rw [State.drainCheck_draining hu hs]
    exact h.becomeFree (h.ne_zero (by simp [hs])) hu
  | free | active | suspended =>
    rw [State.drainCheck_idle (by simp [hs]) (by simp [hs])]
    exact h

/-! ## Entries removed and cycles ended (R43, R62, R81) -/

theorem State.TableLaws.dropEntry (h : s.TableLaws online) (key : MasterId × Tag) : (s.dropEntry key).TableLaws online
    :=
  h.of_fewer rfl rfl (fun _ he => (List.mem_filter.1 he).1) fun _ hc => hc

theorem State.TableLaws.removeEntry (h : s.TableLaws online) (e : OrtEntry) : (s.removeEntry e).TableLaws online :=
  (h.dropEntry e.key).drainCheck e.window

theorem State.TableLaws.removeReserved (h : s.TableLaws online) (c : CurrentCycle) :
    (s.removeReserved c).TableLaws online := by
  obtain ⟨heq, -⟩ | ⟨e, -, -, -, heq⟩ := s.removeReserved_cases c
  · rw [heq]
    exact h
  · rw [heq]
    exact h.removeEntry e

/-- Entries whose state alone changes refer as before. -/
theorem State.TableLaws.setEntryState (h : s.TableLaws online) (key : MasterId × Tag) (st : EntryState) :
    (s.setEntryState key st).TableLaws online := by
  refine h.of_windows rfl rfl (h.reference.of_inFlight (fun _ => rfl) (fun e he => ?_) fun c hc => ⟨c, hc, rfl, rfl⟩)
  obtain ⟨d, hd, rfl⟩ := List.mem_map.1 he
  refine ⟨d, hd, ?_⟩
  split <;> exact ⟨rfl, rfl, rfl⟩

theorem State.TableLaws.acceptReserved (h : s.TableLaws online) (c : CurrentCycle) :
    (s.acceptReserved c).TableLaws online := by
  unfold State.acceptReserved
  split
  · exact h.setEntryState _ _
  · exact h
  · exact h

theorem State.TableLaws.endCycle (h : s.TableLaws online) (c : CurrentCycle) (ast : AstLines) :
    (s.endCycle c ast).TableLaws online := by
  have cleared : ({ s.releaseLines { s.lines with ast := ast } with current := none } : State).TableLaws online :=
    h.of_fewer rfl rfl (fun _ he => he) nofun
  exact cleared.drainCheck c.window

/-! ## Forced drains (R90, R148) -/

/-- A forced drain of a slot other than 0, with the slots in service as they were before the slot left it. -/
theorem State.TableLaws.forceDrainOne (h : s.TableLaws online) (hk : k ≠ 0) (w : WindowId) :
    (State.forceDrainOne k s w).TableLaws online := by
  by_cases hw : w = 0
  · have hport : s.window 0 = .directoryPort := h.port
    have hkept : State.forceDrainOne k s 0 = s := by
      unfold State.forceDrainOne
      rw [hport]
      exact if_neg (Ne.symm hk)
    rw [hw, hkept]
    exact h
  have drained (hf : (s.window w).state ≠ .free) (o : Option MasterId) (code : ResultCode) (ws : Words) :
      (((s.setWindow w (s.window w).forceDrained).completeWaiter o code ws).drainCheck w).TableLaws online :=
    ((h.samePlace ⟨hw, hf⟩ ((h.window w).forceDrained hf) (Window.samePlace_forceDrained _)).completeWaiter _ _
        _).drainCheck w
  unfold State.forceDrainOne
  dsimp only
  split
  · exact h
  · next hs =>
    split
    · exact drained (by simp [hs]) none .none .zero
    · exact h
  · next hs =>
    split
    · exact drained (by simp [hs]) none .none .zero
    · exact h
  · split
    · exact h.drainCheck w
    · exact h
  · next hs =>
    have hf : (s.window w).state ≠ .free := by simp [hs]
    split
    · exact drained hf _ _ _
    · split
      · exact (h.samePlace ⟨hw, hf⟩ ((h.window w).released hs) (Window.samePlace_released _)).completeWaiter _ _ _
      · exact h

theorem State.TableLaws.forceDrain (h : s.TableLaws online) (hk : k ≠ 0) : (s.forceDrain k).TableLaws online := by
  unfold State.forceDrain
  generalize List.finRange 64 = l
  induction l generalizing s with
  | nil => exact h
  | cons w l ih => exact ih (h.forceDrainOne hk w)

/-- After a forced drain no window serves the slot or is bound for it (R90, R95). -/
theorem Window.Sound.drainedTo_off (h : win.Sound) (k : SlotId) (unreferenced : Bool) :
    ((win.drainedTo k unreferenced).state ≠ .free → (win.drainedTo k unreferenced).state ≠ .draining →
        (win.drainedTo k unreferenced).slot ≠ k)
      ∧ ∀ c ∈ (win.drainedTo k unreferenced).change, c.slot ≠ k := by
  have hnone (hs : win.state ≠ .held) : win.change = none := by simpa [hs] using h.change_iff_held
  unfold Window.drainedTo
  cases hs : win.state with
  | free => exact ⟨fun hf => absurd hs hf, by simp [hnone (by simp [hs])]⟩
  | active | suspended =>
    dsimp only
    split
    · cases unreferenced
      · exact ⟨fun _ hd => absurd rfl hd, nofun⟩
      · exact ⟨fun hf => absurd rfl hf, nofun⟩
    · next hk => exact ⟨fun _ _ => hk, by simp [hnone (by simp [hs])]⟩
  | draining =>
    dsimp only
    split
    · cases unreferenced
      · exact ⟨fun _ hd => absurd hs hd, by simp [hnone (by simp [hs])]⟩
      · exact ⟨fun hf => absurd rfl hf, nofun⟩
    · next hk => exact ⟨fun _ _ => hk, by simp [hnone (by simp [hs])]⟩
  | held =>
    dsimp only
    split
    · cases unreferenced
      · exact ⟨fun _ hd => absurd rfl hd, nofun⟩
      · exact ⟨fun hf => absurd rfl hf, nofun⟩
    · next hk =>
      split
      · exact ⟨fun _ _ => hk, nofun⟩
      · next hbound => exact ⟨fun _ _ => hk, fun c hc hck => hbound ((win.boundFor_iff k).2 ⟨c, hc, hck⟩)⟩

/-- A forced drain makes the slot's leaving of service good. -/
theorem State.TableLaws.forceDrain_off (h : s.TableLaws online) (hsound : ∀ w, (s.window w).Sound) (hk : k ≠ 0) :
    (s.forceDrain k).TableLaws fun j => online j ∧ j ≠ k := by
  have hdrain := h.forceDrain hk
  have hoff (w : WindowId) := (hsound w).drainedTo_off k (s.unreferenced w)
  refine hdrain.serving (fun w hf hd => ⟨(hdrain.window w).service hf hd, ?_⟩) fun w c hc =>
    ⟨(hdrain.window w).bound c hc, ?_⟩
  · rw [State.window_forceDrain_eq] at hf hd ⊢
    exact (hoff w).1 hf hd
  · rw [State.window_forceDrain_eq] at hc
    exact (hoff w).2 c hc

end Sys2Proof.Machine
end

section
/-!
PROOFS. The commands and the laws of the Window Table (O59): the checks of CLAIM, RESIZE, MOVE and RESTACK are what
keeps
two windows of a layer apart.
-/
namespace Sys2Proof.Machine

variable {s t : State} {m : MasterId} {k : SlotId} {w : WindowId} {win r : Window} {online : SlotId → Prop}

/-! ## The OVERLAP check (R17) -/

theorem State.lowestFree_ne_zero (h : s.lowestFree = some w) : w ≠ 0 := by
  have hfound := List.find?_some h
  rw [Bool.and_eq_true, bne_iff_ne] at hfound
  exact hfound.1

/-- A range that has passed the OVERLAP check is free of every other window at its layer. -/
theorem State.TableLaws.apart (h : s.TableLaws online) {own : Option WindowId} {space : Space} {layer : Fin 4}
    {base length : Nat} {target : Option Nat} (hrange : rangeOk base length target = true)
    (hroom : s.overlaps own space layer base length = false) {v : WindowId} (hv : own ≠ some v) {unit : Nat}
    (hc : (s.window v).covers space unit = true) (hunit : inRange base length unit = true) :
    (s.window v).layer ≠ layer := by
  intro hlayer
  have hlength : 1 ≤ length := ((rangeOk_iff base length target).1 hrange).lengthIn.1
  simp only [inRange, Bool.and_eq_true, decide_eq_true_eq] at hunit
  have hcollides : s.Collides own space layer base length := ⟨v, unit, hv, hlayer, hc, hunit.1, hunit.2⟩
  rw [← State.overlaps_iff h.rangeLaw own space layer hlength, hroom] at hcollides
  cases hcollides

/-- What is named in flight is not FREE (R15). -/
theorem State.TableLaws.not_referenced_of_free (h : s.TableLaws online) (hs : (s.window w).state = .free) :
    ¬ s.Referenced w := by
  rintro (⟨e, he, rfl⟩ | ⟨c, hc, rfl⟩)
  · obtain ⟨-, hfree, -⟩ := h.reference.entry e he
    exact hfree hs
  · obtain ⟨-, hfree, -⟩ := h.reference.cycle c hc
    exact hfree hs

/-! ## What each command's record covers -/

theorem Window.covers_of_active {space : Space} {unit : Nat} (hs : win.state = .active ∨ win.state = .suspended) :
    win.covers space unit = true ↔ win.space = space ∧ inRange win.base win.length unit = true := by
  obtain hs | hs := hs <;> simp [Window.covers, Window.inPending, hs]

theorem Window.covers_heldFor (c : PendingChange) {space : Space} {unit : Nat} {waiting : Option MasterId} :
    ({ win.heldFor c with waiting := waiting } : Window).covers space unit = true
      ↔ win.space = space ∧ (inRange win.base win.length unit = true ∨ inRange c.base c.length unit = true) := by
  simp [Window.covers, Window.inPending, Window.heldFor]

theorem inRange_mono {base length length' unit : Nat} (h : length ≤ length') (hu : inRange base length unit = true) :
    inRange base length' unit = true := by
  simp only [inRange, Bool.and_eq_true, decide_eq_true_eq] at hu ⊢
  omega

/-! ## Commands that are whole at their take -/

theorem State.TableLaws.claimed (h : s.TableLaws s.Online) {o : ClaimOperands} (hfree : s.lowestFree = some w)
    (hrange : rangeOk o.base o.length o.target = true) (honline : (s.slot o.slot).state = .online)
    (hroom : s.overlaps none o.space o.layer o.base o.length = false) :
    (s.setWindow w (claimedWindow m o)).TableLaws s.Online := by
  refine h.setWindow (State.lowestFree_ne_zero hfree)
    ⟨nofun, fun _ => hrange, nofun, fun _ _ => honline, nofun, fun _ => h.limit.1, Nat.zero_le _⟩
    (fun v hv space unit hc hr => ?_) fun href => absurd href (h.not_referenced_of_free (State.lowestFree_free hfree))
  obtain ⟨rfl, hunit⟩ := (Window.covers_of_active (.inl rfl)).1 hr
  exact h.apart hrange hroom (by simp) hc hunit

/-- A RESIZE that is taken at once covers no unit outside its old range that another window covers (R126). -/
theorem State.TableLaws.resized (h : s.TableLaws online) (hw : s.Commandable w) (hs : (s.window w).state = .active)
    {length : Nat} (hrange : rangeOk (s.window w).base length (s.window w).target = true)
    (hroom : (s.window w).length < length →
      s.overlaps (some w) (s.window w).space (s.window w).layer (s.window w).base length = false) :
    (s.setWindow w ((s.window w).withLength length)).TableLaws online := by
  obtain ⟨cleared, range, pending, service, bound, strikes, strikes_le⟩ := h.window w
  refine h.setWindow hw.notPort ⟨fun hf => absurd hf hw.notFree, fun _ => hrange, pending, service, bound, strikes,
    strikes_le⟩ (fun v hv space unit hc hr => ?_) fun _ => ⟨hw.notFree, rfl, rfl⟩
  obtain ⟨rfl, hunit⟩ := (Window.covers_of_active (win := (s.window w).withLength length) (.inl hs)).1 hr
  by_cases hgrow : (s.window w).length < length
  · exact h.apart hrange (hroom hgrow) (fun he => hv (Option.some.inj he).symm) hc hunit
  · exact h.overlap v w hv _ unit hc
      ((Window.covers_of_active (.inl hs)).2 ⟨rfl, inRange_mono (Nat.le_of_not_lt hgrow) hunit⟩)

theorem State.TableLaws.moved (h : s.TableLaws s.Online) (hw : s.Commandable w) (hs : (s.window w).state = .active)
    {c : PendingChange} (hrange : rangeOk c.base c.length c.target = true) (honline : (s.slot c.slot).state = .online)
    (hroom : s.overlaps (some w) (s.window w).space (s.window w).layer c.base c.length = false)
    (hu : s.unreferenced w = true) : (s.setWindow w ((s.window w).reshaped c).unstruck).TableLaws s.Online := by
  obtain ⟨cleared, range, pending, service, bound, strikes, strikes_le⟩ := h.window w
  refine h.setWindow hw.notPort ⟨fun hf => absurd hf hw.notFree, fun _ => hrange, pending, fun _ _ => honline, bound,
    fun _ => h.limit.1, Nat.zero_le _⟩ (fun v hv space unit hc hr => ?_)
    fun href => absurd href ((s.unreferenced_iff w).1 hu)
  obtain ⟨rfl, hunit⟩ := (Window.covers_of_active (win := ((s.window w).reshaped c).unstruck) (.inl hs)).1 hr
  exact h.apart hrange hroom (fun he => hv (Option.some.inj he).symm) hc hunit

theorem State.TableLaws.restacked (h : s.TableLaws online) (hw : s.Commandable w)
    (hs : (s.window w).state = .active ∨ (s.window w).state = .suspended) {layer : Fin 4}
    (hroom : s.overlaps (some w) (s.window w).space layer (s.window w).base (s.window w).length = false) :
    (s.setWindow w ((s.window w).withLayer layer)).TableLaws online := by
  obtain ⟨cleared, range, pending, service, bound, strikes, strikes_le⟩ := h.window w
  refine h.setWindow hw.notPort ⟨fun hf => absurd hf hw.notFree, range, pending, service, bound, strikes, strikes_le⟩
    (fun v hv space unit hc hr => ?_) fun _ => ⟨hw.notFree, rfl, rfl⟩
  obtain ⟨rfl, hunit⟩ := (Window.covers_of_active (win := (s.window w).withLayer layer) hs).1 hr
  exact h.apart (range hw.notFree) hroom (fun he => hv (Option.some.inj he).symm) hc hunit

/-- A record that differs in the sets or the sponsor alone. -/
theorem State.TableLaws.rewritten (h : s.TableLaws online) (hw : s.Commandable w) {readSet writeSet : MasterSet}
    {sponsor : MasterId} :
    (s.setWindow w { s.window w with readSet := readSet, writeSet := writeSet, sponsor := sponsor }).TableLaws online
        := by
  obtain ⟨cleared, range, pending, service, bound, strikes, strikes_le⟩ := h.window w
  exact h.samePlace hw ⟨fun hf => absurd hf hw.notFree, range, pending, service, bound, strikes, strikes_le⟩
    ⟨hw.notFree, rfl, rfl, rfl, rfl, rfl, fun _ hp => hp⟩

theorem State.TableLaws.reinstated (h : s.TableLaws online) (hw : s.Commandable w)
    (hs : (s.window w).state = .suspended) : (s.setWindow w (s.window w).reinstated).TableLaws online := by
  obtain ⟨cleared, range, pending, service, bound, strikes, strikes_le⟩ := h.window w
  exact h.samePlace hw ⟨nofun, fun _ => range hw.notFree, pending, fun _ _ => service hw.notFree (by simp [hs]), bound,
    fun _ => h.limit.1, Nat.zero_le _⟩ ⟨nofun, rfl, rfl, rfl, rfl, rfl, nofun⟩

theorem State.TableLaws.writes (h : s.TableLaws s.Online) (hr : s.Writes m w r) : (s.setWindow w r).TableLaws s.Online
    := by
  cases hr with
  | claim o free range online room => exact h.claimed free range online room
  | resize length named active range room => exact h.resized named active range room
  | move c named active range online room unreferenced => exact h.moved named active range online room unreferenced
  | restack layer named serving room => exact h.restacked named serving room
  | grant readSet writeSet named => exact h.rewritten named
  | handover sponsor named => exact h.rewritten named
  | reinstate named suspended => exact h.reinstated named suspended

/-! ## Commands that wait, and RETIRE -/

/-- A window HELD for a change that has passed its checks (R128, R131). -/
theorem State.TableLaws.heldFor (h : s.TableLaws s.Online) (hw : s.Commandable w) (hs : (s.window w).state = .active)
    {c : PendingChange} (hrange : rangeOk c.base c.length c.target = true)
    (honline : (s.window w).slot = c.slot ∨ (s.slot c.slot).state = .online)
    (hroom : (c.base = (s.window w).base ∧ c.length < (s.window w).length)
      ∨ s.overlaps (some w) (s.window w).space (s.window w).layer c.base c.length = false) (waiting : Option MasterId) :
    (s.setWindow w { (s.window w).heldFor c with waiting := waiting }).TableLaws s.Online := by
  obtain ⟨cleared, range, pending, service, bound, strikes, strikes_le⟩ := h.window w
  have hservice : s.Online (s.window w).slot := service hw.notFree (by simp [hs])
  have hbound : s.Online c.slot := honline.elim (fun he => he ▸ hservice) id
  refine h.setWindow hw.notPort ⟨nofun, fun _ => range hw.notFree, fun d hd => ?_, fun _ _ => hservice, fun d hd => ?_,
    fun _ => strikes (.inl hs), strikes_le⟩ (fun v hv space unit hc hr => ?_) fun _ => ⟨nofun, rfl, rfl⟩
  · cases hd
    exact hrange
  · cases hd
    exact hbound
  · obtain ⟨rfl, hunit⟩ := (Window.covers_heldFor c).1 hr
    have hold (hu : inRange (s.window w).base (s.window w).length unit = true) : (s.window v).layer ≠ (s.window
        w).layer :=
      h.overlap v w hv _ unit hc ((Window.covers_of_active (.inl hs)).2 ⟨rfl, hu⟩)
    obtain hu | hu := hunit
    · exact hold hu
    · obtain ⟨hbase, hlength⟩ | hroom := hroom
      · exact hold (inRange_mono (Nat.le_of_lt hlength) (hbase ▸ hu))
      · exact h.apart hrange hroom (fun he => hv (Option.some.inj he).symm) hc hu

theorem State.TableLaws.draining (h : s.TableLaws online) (hw : s.Commandable w) (waiting : Option MasterId) :
    (s.setWindow w { (s.window w).draining with waiting := waiting }).TableLaws online := by
  obtain ⟨cleared, range, pending, service, bound, strikes, strikes_le⟩ := h.window w
  exact h.samePlace hw ⟨nofun, fun _ => range hw.notFree, pending, fun _ hd => absurd rfl hd, bound,
    fun hs => hs.elim nofun nofun, strikes_le⟩ ⟨nofun, rfl, rfl, rfl, rfl, rfl, nofun⟩

theorem State.TableLaws.awaits (h : s.TableLaws s.Online) (hr : s.Awaits w r) (m : MasterId) :
    (s.awaitWindow m w r).TableLaws s.Online := by
  have hset : (s.setWindow w { r with waiting := some m }).TableLaws s.Online := by
    cases hr with
    | held c named active range online room => exact h.heldFor named active range online room _
    | draining named serving => exact h.draining named _
  exact hset.of_fields rfl rfl rfl rfl

theorem State.TableLaws.retires (h : s.TableLaws online) (hw : s.Commandable w) :
    ((s.setWindow w (s.window w).draining).drainCheck w).TableLaws online :=
  (h.draining hw (s.window w).waiting).drainCheck w

/-! ## Registry commands -/

theorem State.TableLaws.done (h : s.TableLaws online) (m : MasterId) (ws : Words) : (s.done m ws).TableLaws online :=
  h.complete m .done ws

/-- A slot record written, when no slot in service leaves it. -/
theorem State.TableLaws.setSlot (h : s.TableLaws s.Online) {r : SlotRecord}
    (hr : (s.slot k).state = .online → r.state = .online) : (s.setSlot k r).TableLaws (s.setSlot k r).Online := by
  have hset : (s.setSlot k r).TableLaws s.Online := h.of_fields rfl rfl rfl rfl
  refine hset.mono fun j hj => ?_
  rw [State.Online, State.slot_setSlot]
  split
  · next hjk => exact hr (hjk ▸ hj)
  · exact hj

/-- The slots in service after a state change that writes no slot record. -/
theorem State.TableLaws.online_of_slots (h : t.TableLaws s.Online) (hslots : t.slots = s.slots) : t.TableLaws t.Online
    :=
  h.mono fun k hk => by
    rw [State.Online, State.slot, hslots]
    exact hk

/-- The slots in service after slot k has left it. -/
theorem State.TableLaws.off_of_slots (h : t.TableLaws fun j => s.Online j ∧ j ≠ k) {r : SlotRecord}
    (hslots : t.slots = s.slots.set k r) : t.TableLaws t.Online :=
  h.mono fun j ⟨hj, hjk⟩ => by
    have hslot : t.slot j = (s.setSlot k r).slot j := by
      rw [State.slot, hslots]
      rfl
    rw [State.Online, hslot, State.slot_setSlot, if_neg hjk]
    exact hj

theorem State.TableLaws.takesOffline (h : s.TableLaws s.Online) (hsound : ∀ w, (s.window w).Sound) (hk : k ≠ 0)
    (r : SlotRecord) : ((s.setSlot k r).forceDrain k).TableLaws fun j => s.Online j ∧ j ≠ k := by
  have hset : (s.setSlot k r).TableLaws s.Online := h.of_fields rfl rfl rfl rfl
  exact hset.forceDrain_off hsound hk

/-- TUNE with a limit writes it and every window's strikes (R100). -/
theorem State.TableLaws.tuned (h : s.TableLaws online) {limit : Nat} (hlimit : limit ≤ 15) (sel : SelectionOperand) :
    (s.tuned limit sel).TableLaws online := by
  obtain ⟨windows, strikeLimit, selection, heq⟩ := s.tuned_frame limit sel
  have hort : (s.tuned limit sel).ort = s.ort := by rw [heq]
  have hcurrent : (s.tuned limit sel).current = s.current := by rw [heq]
  by_cases h0 : limit = 0
  · subst h0
    obtain ⟨hwindows, hstrikeLimit⟩ := s.tuned_zero sel
    exact h.of_fields hwindows hstrikeLimit hort hcurrent
  obtain ⟨hstrikeLimit, hwindow⟩ := State.tuned_limit h0 s sel
  have hpositive : 1 ≤ limit := Nat.one_le_iff_ne_zero.2 h0
  refine ⟨?_, by rw [hstrikeLimit]; exact ⟨hpositive, hlimit⟩, fun w => ?_, fun v w => ?_, fun e he => ?_, fun c hc =>
    ?_⟩
  · have hport : s.window 0 = .directoryPort := h.port
    rw [State.PortLaw, hwindow, hport]
    rfl
  · rw [hwindow, hstrikeLimit]
    exact (h.window w).unstruck hpositive
  · rw [hwindow, hwindow]
    exact h.overlap v w
  · rw [hwindow]
    exact h.reference.entry e (hort ▸ he)
  · rw [hwindow]
    exact h.reference.cycle c (hcurrent ▸ hc)

/-! ## Every command -/

/-- Every command keeps the laws of the Window Table. -/
theorem State.TableLaws.effect (h : s.TableLaws s.Online) (hsound : ∀ w, (s.window w).Sound) (he : s.Effect m t) :
    t.TableLaws t.Online := by
  cases he with
  | completes code ws => exact h.complete m code ws
  | writes w r ws hr => exact (h.writes hr).done m ws
  | awaits w r hr => exact h.awaits hr m
  | retires w ws named serving => exact State.TableLaws.online_of_slots ((h.retires named).done m ws) (by simp)
  | setsLimits k ack reply ws hack hreply =>
    have hset := h.setSlot (k := k) (r := (s.slot k).withLimits ack.toNat reply.toNat) id
    exact hset.done m ws
  | putsOnline k ws offline =>
    have hset := h.setSlot (k := k) (r := (s.slot k).withState .online) fun _ => rfl
    exact hset.done m ws
  | takesOffline k ws hk online =>
    refine State.TableLaws.off_of_slots ((h.takesOffline hsound hk _).done m ws)
      (r := (s.slot k).withState .offline) ?_
    rw [State.done_slots, State.forceDrain_slots, State.setSlot]
  | writesMaster k r ws supervised =>
    obtain ⟨contexts, queue, heq⟩ := s.writeMaster_frame k r
    have hwrite : (s.writeMaster k r).TableLaws s.Online := by
      rw [heq]
      exact h.of_fields rfl rfl rfl rfl
    exact State.TableLaws.online_of_slots (hwrite.done m ws) (by rw [heq]; rfl)
  | tunes limit sel ws bound =>
    obtain ⟨windows, strikeLimit, selection, heq⟩ := s.tuned_frame limit sel
    exact State.TableLaws.online_of_slots ((h.tuned bound sel).done m ws) (by rw [heq]; rfl)

end Sys2Proof.Machine
end

section
/-!
PROOFS. Every event and the laws of the Window Table (O59).
-/
namespace Sys2Proof.Machine

variable {s t : State} {m : MasterId} {k : SlotId} {w : WindowId} {c : CurrentCycle} {e : OrtEntry}
  {online : SlotId → Prop}

/-! ## The start-up contents (Table 2-3) -/

section StartUp

variable (s)

@[simp] theorem State.initialise_current : s.initialise.current = none := by rw [State.initialise]
@[simp] theorem State.initialise_lines : s.initialise.lines = .idle := by rw [State.initialise]
@[simp] theorem State.initialise_ort : s.initialise.ort = [] := by rw [State.initialise]
@[simp] theorem State.initialise_faultQueue : s.initialise.faultQueue = [] := by rw [State.initialise]
@[simp] theorem State.initialise_mastership : s.initialise.mastership = .idle := by rw [State.initialise]
@[simp] theorem State.initialise_queue : s.initialise.queue = [] := by rw [State.initialise]
@[simp] theorem State.initialise_strikeLimit : s.initialise.strikeLimit = Config.defaultStrikeLimit := by
  rw [State.initialise, State.initRegistry]

variable (prs mode : BitVec 16)

@[simp] theorem State.release_current : (s.release prs mode).current = s.current := by
  rw [State.release, State.initRegistry]
@[simp] theorem State.release_lines : (s.release prs mode).lines = s.lines := by
  rw [State.release, State.initRegistry]
@[simp] theorem State.release_ort : (s.release prs mode).ort = s.ort := by
  rw [State.release, State.initRegistry]
@[simp] theorem State.release_mastership : (s.release prs mode).mastership = s.mastership := by
  rw [State.release, State.initRegistry]
@[simp] theorem State.release_queue : (s.release prs mode).queue = s.queue := by
  rw [State.release, State.initRegistry]
@[simp] theorem State.release_strikeLimit : (s.release prs mode).strikeLimit = Config.defaultStrikeLimit := by
  rw [State.release, State.initRegistry]
@[simp] theorem State.release_pins : (s.release prs mode).pins = releasedPins prs mode := by
  rw [State.release]

end StartUp

theorem initWindow_lawful {limit : Nat} (hzero : online 0) (hlimit : 1 ≤ limit) (w : WindowId) :
    (initWindow w).Lawful online limit := by
  unfold initWindow
  split
  · exact ⟨nofun, fun _ => by decide, nofun, fun _ _ => hzero, nofun, fun _ => hlimit, Nat.zero_le _⟩
  · split
    · exact ⟨nofun, fun _ => by decide, nofun, fun _ _ => hzero, nofun, fun _ => hlimit, Nat.zero_le _⟩
    · exact Window.lawful_cleared _ _

/-- Entry 0 is an IO window and entry 1 a MEM window, and no other is in use. -/
theorem initWindow_overlap {v w : WindowId} (hvw : v ≠ w) {space : Space} {unit : Nat}
    (hv : (initWindow v).covers space unit = true) (hw : (initWindow w).covers space unit = true) : False := by
  have hspace {u : WindowId} (hu : (initWindow u).covers space unit = true) : u = 0 ∧ space = .io ∨ u = 1 ∧ space =
      .mem := by
    obtain ⟨hfree, rfl⟩ := Window.state_of_covers hu
    unfold initWindow at hfree ⊢
    split
    · next h0 => exact .inl ⟨h0, rfl⟩
    · split
      · next h1 => exact .inr ⟨h1, rfl⟩
      · next h0 h1 => exact absurd (by rw [if_neg h0, if_neg h1]; rfl) hfree
  obtain ⟨rfl, rfl⟩ | ⟨rfl, rfl⟩ := hspace hv
  · obtain ⟨rfl, -⟩ | ⟨-, h⟩ := hspace hw
    · exact hvw rfl
    · cases h
  · obtain ⟨-, h⟩ | ⟨rfl, -⟩ := hspace hw
    · cases h
    · exact hvw rfl

/-- The laws where the Window Table holds Table 2-3 and nothing is in flight. -/
theorem State.tableLaws_startUp (hwindow : ∀ w, s.window w = initWindow w) (hcurrent : s.current = none)
    (hort : s.ort = []) (hlimit : 1 ≤ s.strikeLimit ∧ s.strikeLimit ≤ 15) (hzero : online 0) : s.TableLaws online where
  port := hwindow 0
  limit := hlimit
  window w := by
    rw [hwindow]
    exact initWindow_lawful hzero hlimit.1 w
  overlap v w hvw space unit hv hw := by
    rw [hwindow] at hv hw
    exact (initWindow_overlap hvw hv hw).elim
  reference := ⟨fun e he => by simp [hort] at he, fun c hc => by simp [hcurrent] at hc⟩

/-! ## Address phases -/

/-- A wait that ABANDON undoes is on a HELD window: a RETIRE cannot be undone (R114, R117). -/
theorem State.EngineLaws.held_of_undoable {taker : Option MasterId} (h : s.EngineLaws taker)
    (hs : (s.context m).state = .waiting) (hw : (s.context m).waitingWindow = some w)
    (hu : (s.context m).undoable = true) : (s.window w).state = .held := by
  have hwait : (s.window w).waiting = some m := (h.named w m).2 ⟨hs, hw⟩
  refine ((h.window w).waiting_state (by simp [hwait])).resolve_right fun hd => ?_
  have hcommand := (h.awaited w m hwait).2 hd
  obtain hmove | hresize := (s.context m).undoable_iff.1 hu
  · simp [hmove] at hcommand
  · simp [hresize] at hcommand

theorem State.TableLaws.abandonWrite (h : s.TableLaws online) (he : s.EngineLaws none) (m : MasterId) :
    (s.abandonWrite m).TableLaws online := by
  unfold State.abandonWrite
  dsimp only
  split
  · exact h.of_fields rfl rfl rfl rfl
  · next w hs hw =>
    split
    · next hu =>
      have hheld := he.held_of_undoable hs hw hu
      have hport := h.ne_zero (w := w) (by simp [hheld])
      exact (h.samePlace ⟨hport, by simp [hheld]⟩ ((h.window w).released hheld)
        (Window.samePlace_released _)).complete m _ _
    · exact h.of_fields rfl rfl rfl rfl
  · exact h.of_fields rfl rfl rfl rfl

theorem State.TableLaws.portWrite (h : s.TableLaws online) (he : s.EngineLaws none) (m : MasterId) (data : Word)
    (port : Port) : (s.portWrite m data port).TableLaws online := by
  cases port with
  | context =>
    change (s.goWrite m data).TableLaws online
    unfold State.goWrite
    split
    · exact h.abandonWrite he m
    · obtain ⟨contexts, queue, heq⟩ := s.goAccept_frame m data
      rw [heq]
      exact h.of_fields rfl rfl rfl rfl
  | word n => exact h.of_fields rfl rfl rfl rfl
  | attention =>
    change (s.attentionWrite m data).TableLaws online
    unfold State.attentionWrite
    split
    · exact h.of_fields rfl rfl rfl rfl
    · exact h
  | occupancy => exact h

/-- A selected cycle names a window in use, on its slot (R10, R33). -/
theorem State.TableLaws.select (h : s.TableLaws online) (hw : s.Commandable w) (m : MasterId) (kind : CurrentKind)
    (unit : Nat) : (s.select m kind w unit).TableLaws online := by
  refine h.of_windows rfl rfl ⟨h.reference.entry, fun c hc => ?_⟩
  cases hc
  exact ⟨hw.notPort, hw.notFree, rfl⟩

theorem State.TableLaws.reserve (h : s.TableLaws online) (hw : s.Commandable w) (hmem : (s.window w).space = .mem)
    {unit : Nat} (hunit : unit < Config.units) (m : MasterId) (tag : Tag) :
    (s.reserve m tag w unit).TableLaws online := by
  refine h.of_windows rfl rfl ⟨fun e he => ?_, h.reference.cycle⟩
  obtain he | he := List.mem_append.1 he
  · exact h.reference.entry e he
  · cases List.mem_singleton.1 he
    exact ⟨hw.notPort, hw.notFree, rfl, hmem, hunit⟩

/-! ## Deadlines, replies and tenures -/

theorem State.TableLaws.expireEntry (h : s.TableLaws online) (he : e ∈ s.ort) : (s.expireEntry e).TableLaws online := by
  obtain ⟨hport, -⟩ := h.reference.entry e he
  have hset := h.setEntryState e.key (.expired .silent)
  have queued : ({ s.setEntryState e.key (.expired .silent) with faultQueue := s.faultQueue ++ [e.key] } :
      State).TableLaws
      online := hset.of_fields rfl rfl rfl rfl
  exact (queued.strike hport).of_fields (by simp [State.expireEntry]) (by simp [State.expireEntry])
    (by simp [State.expireEntry]) (by simp [State.expireEntry])

theorem State.TableLaws.releaseLines (h : s.TableLaws online) (l : Lines) : (s.releaseLines l).TableLaws online :=
  h.of_fields rfl rfl rfl rfl

theorem State.TableLaws.passWaiting (h : s.TableLaws online) (he : e ∈ s.ort) (status : Status) :
    (s.passWaiting e status).TableLaws online := by
  obtain ⟨hport, -⟩ := h.reference.entry e he
  exact ((h.releaseLines _).strikeClear hport).removeEntry e

theorem State.TableLaws.passExpired (h : s.TableLaws online) (e : OrtEntry) (status : Status) :
    (s.passExpired e status).TableLaws online :=
  ((h.releaseLines (Lines.slaveReply status false)).removeEntry e).of_fields (by simp [State.passExpired]) (by simp
      [State.passExpired])
    (by simp [State.passExpired]) (by simp [State.passExpired])

theorem State.TableLaws.endFaultReply (h : s.TableLaws online) (key : MasterId × Tag) :
    (s.endFaultReply key).TableLaws online := by
  unfold State.endFaultReply
  split
  · next e _ => exact (h.removeEntry e).of_fields rfl rfl rfl rfl
  · exact (h.dropEntry key).of_fields rfl rfl rfl rfl

/-! ## Presence loss (R89) -/

theorem State.TableLaws.withdrawCycle (h : s.TableLaws online) (k : SlotId) : (s.withdrawCycle k).TableLaws online := by
  obtain ⟨heq, -⟩ | ⟨c, -, -, heq⟩ := s.withdrawCycle_cases k
  · rw [heq]
    exact h
  · rw [heq]
    exact (h.removeReserved c).endCycle c _

theorem State.TableLaws.withdrawEntries (h : s.TableLaws online) (k : SlotId) : (s.withdrawEntries k).TableLaws online
    := by
  refine h.of_windows (by simp) (by simp)
    (h.reference.of_inFlight (fun w => by simp) (fun e he => ?_) fun c hc => ⟨c, by simpa using hc, rfl, rfl⟩)
  rw [(s.expires_withdrawEntries k).ort] at he
  obtain ⟨d, hd, rfl⟩ := List.mem_map.1 he
  refine ⟨d, hd, ?_⟩
  split <;> exact ⟨rfl, rfl, rfl⟩

theorem State.TableLaws.presenceLoss (h : s.TableLaws s.Online) (hsound : ∀ w, (s.window w).Sound) (hk : k ≠ 0) :
    (s.presenceLoss k).TableLaws (s.presenceLoss k).Online := by
  have hstages := (((h.takesOffline hsound hk (s.slot k).lost).withdrawCycle k).withdrawEntries k)
  have hraised : (s.presenceLoss k).TableLaws fun j => s.Online j ∧ j ≠ k := by
    rw [State.presenceLoss_eq]
    exact hstages.of_fields (State.raise_windows ..) (State.raise_strikeLimit ..) (State.raise_ort ..)
      (State.raise_current ..)
  exact hraised.off_of_slots (s.presenceLoss_slots k)

/-! ## Every event -/

/-- Every event keeps the laws of the Window Table, beside those of the engine, the Registry and INIT. -/
theorem State.TableLaws.event (h : s.TableLaws s.Online) (engine : s.EngineLaws none) (registry : s.RegistryLaws)
    (init : s.InitLaw) (he : s.Event t) : t.TableLaws t.Online := by
  cases he with
  | nothing => exact h
  | init =>
    refine State.tableLaws_startUp s.window_initialise s.initialise_current s.initialise_ort
      (s.initialise_strikeLimit ▸ by decide) ?_
    rw [State.Online, State.slot_initialise]
    exact registry.slots.slot_zero.2
  | release asserted prs mode =>
    obtain ⟨hcurrent, hort, -, -, -, hwindow⟩ := init asserted
    refine State.tableLaws_startUp (fun w => (s.window_release prs mode w).trans (hwindow w))
      ((s.release_current prs mode).trans hcurrent) ((s.release_ort prs mode).trans hort)
      (s.release_strikeLimit prs mode ▸ by decide) ?_
    rw [State.Online, State.slot_release]
    exact ((releasedSlot_lawful prs mode 0).zero rfl).2
  | answer ready status => exact h.of_fields rfl rfl rfl rfl
  | serve ready data => exact h.of_fields rfl rfl rfl rfl
  | portWrite ready m enabled data port =>
    have hwrite := h.portWrite engine m data port
    obtain ⟨windows, contexts, queue, attention, heq⟩ := s.portWrite_frame m data port
    exact State.TableLaws.online_of_slots (hwrite.releaseLines _) (by rw [heq]; rfl)
  | select ready m kind w unit named => exact h.select named m kind unit
  | reserve ready m tag w unit named mem within =>
    have hreserve := h.reserve named mem within m tag
    exact hreserve.select (s := s.reserve m tag w unit) ⟨named.notPort, named.notFree⟩ m _ unit
  | take m rest cmd takes t effect =>
    have taking : (s.taking m rest).TableLaws (s.taking m rest).Online := h.of_fields rfl rfl rfl rfl
    exact taking.effect engine.window effect
  | properEnd released c current ast =>
    obtain ⟨hport, -⟩ := h.reference.cycle c current
    exact State.TableLaws.online_of_slots (((h.strikeClear hport).removeReserved c).endCycle c ast) (by simp)
  | acceptedEnd released c current ast =>
    obtain ⟨hport, -⟩ := h.reference.cycle c current
    exact State.TableLaws.online_of_slots (((h.strikeClear hport).acceptReserved c).endCycle c ast) (by simp)
  | struckEnd released c current ast =>
    obtain ⟨hport, -⟩ := h.reference.cycle c current
    exact State.TableLaws.online_of_slots (((h.strike hport).removeReserved c).endCycle c ast) (by simp)
  | expire released e mem =>
    exact State.TableLaws.online_of_slots (h.expireEntry mem) (by simp [State.expireEntry])
  | voidReply ready source status => exact h.of_fields rfl rfl rfl rfl
  | passWaiting ready e mem status =>
    exact State.TableLaws.online_of_slots (h.passWaiting mem status) (by simp [State.passWaiting])
  | passExpired ready e mem status =>
    exact State.TableLaws.online_of_slots (h.passExpired e status) (by simp [State.passExpired])
  | grantTenure released idle =>
    unfold State.grantTenure
    split <;> exact h.of_fields rfl rfl rfl rfl
  | endTenure released holding key =>
    refine State.TableLaws.online_of_slots (h.endFaultReply key) ?_
    unfold State.endFaultReply
    split
    · simp
    · rfl
  | movePrs asserted k level => exact h.of_fields rfl rfl rfl rfl
  | moveBoth asserted k mode => exact h.of_fields rfl rfl rfl rfl
  | presenceLoss released k hk =>
    have moved : (s.movePrs k false).TableLaws (s.movePrs k false).Online := h.of_fields rfl rfl rfl rfl
    exact moved.presenceLoss engine.window hk
  | presenceReturn released k mode hk level =>
    have moved : ((s.movePrs k true).moveMode k mode).TableLaws ((s.movePrs k true).moveMode k mode).Online :=
      h.of_fields rfl rfl rfl rfl
    refine moved.setSlot fun hs => ?_
    have habsent : (s.slot k).state = .absent :=
      (registry.slots.absent k).2 ((registry.presence released k hk).trans level)
    cases habsent.symm.trans hs

/-- The clocks reach nothing that the laws read of an entry or of the current cycle. -/
theorem State.TableLaws.tick (h : s.TableLaws online) : s.tick.TableLaws online := by
  refine h.of_windows rfl rfl (h.reference.of_inFlight (fun _ => rfl) (fun e he => ?_) fun c hc => ?_)
  · obtain ⟨d, hd, rfl⟩ := List.mem_map.1 he
    exact ⟨d, hd, rfl, rfl, rfl⟩
  · obtain ⟨d, hd, rfl⟩ := Option.map_eq_some_iff.1 hc
    exact ⟨d, hd, rfl, rfl⟩

end Sys2Proof.Machine
end

section
/-!
PROOFS. The laws of the enabled masters, the clocks, the lines and INIT (O59), and all the laws of the device together:
every step keeps them (O59), and they hold right after reset (O60).
-/
namespace Sys2Proof.Machine

variable {s t : State} {m : MasterId} {k : SlotId} {w : WindowId} {c : CurrentCycle} {e : OrtEntry}

/-! ## Enabled masters (R112) -/

/-- The law of the enabled masters by the command queue, which holds the QUEUED ones (R109). -/
def State.QueueEnabled (s : State) : Prop := ∀ m ∈ s.queue, (s.master m).enabled = true

theorem State.QueueLaw.enabledLaw_iff (h : s.QueueLaw) : s.EnabledLaw ↔ s.QueueEnabled :=
  forall_congr' fun m => by rw [h.queued m]

theorem State.QueueEnabled.of_fewer (h : s.QueueEnabled) (hqueue : ∀ m ∈ t.queue, m ∈ s.queue)
    (hmasters : t.masters = s.masters) : t.QueueEnabled := fun m hm => by
  rw [State.master, hmasters]
  exact h m (hqueue m hm)

theorem State.QueueEnabled.of_fields (h : s.QueueEnabled) (hqueue : t.queue = s.queue) (hmasters : t.masters =
    s.masters) :
    t.QueueEnabled := h.of_fewer (fun _ hm => hqueue ▸ hm) hmasters

/-- A GO enters the queue for a master that check 1 has let through (R24, R106). -/
theorem State.QueueEnabled.portWrite (h : s.QueueEnabled) (hm : (s.master m).enabled = true) (data : Word) (port :
    Port) :
    (s.portWrite m data port).QueueEnabled := by
  cases port with
  | context =>
    change (s.goWrite m data).QueueEnabled
    unfold State.goWrite
    split
    · unfold State.abandonWrite
      dsimp only
      split
      · exact h.of_fewer (fun _ hn => (List.mem_filter.1 hn).1) rfl
      · split
        · exact h.of_fields rfl rfl
        · exact h.of_fields rfl rfl
      · exact h.of_fields rfl rfl
    · have joined (d : Context) : ({ s.setContext m d with queue := s.queue ++ [m] } : State).QueueEnabled := by
        intro n hn
        obtain hn | hn := List.mem_append.1 hn
        · exact h n hn
        · rw [List.mem_singleton.1 hn]
          exact hm
      unfold State.goAccept
      dsimp only
      split
      · exact joined _
      · exact joined _
      · exact h.of_fields rfl rfl
      · exact h.of_fields rfl rfl
      · exact h.of_fields rfl rfl
  | word n => exact h.of_fields rfl rfl
  | attention =>
    change (s.attentionWrite m data).QueueEnabled
    unfold State.attentionWrite
    split
    · exact h.of_fields rfl rfl
    · exact h
  | occupancy => exact h

/-- A master that is disabled leaves the queue (R99). -/
theorem State.QueueEnabled.writeMaster (h : s.QueueEnabled) (hqueued : ∀ n ∈ s.queue, (s.context n).state = .queued)
    (k : MasterId) (r : MasterRecord) : (s.writeMaster k r).QueueEnabled := by
  have other {n : MasterId} (hn : n ∈ s.queue) (hk : n = k → r.enabled = true) :
      ((s.setMaster k r).master n).enabled = true := by
    rw [State.master_setMaster]
    split
    · next hnk => exact hk hnk
    · exact h n hn
  unfold State.writeMaster
  split
  · next hr => exact fun n hn => other hn fun _ => hr
  · unfold State.withdrawQueued
    split
    · intro n hn
      obtain ⟨hn, hnk⟩ := List.mem_filter.1 hn
      exact other hn fun he => by simp [he] at hnk
    · next hs => exact fun n hn => other hn fun he => absurd (hqueued n hn) (he ▸ hs)

theorem State.QueueEnabled.effect (h : s.QueueEnabled) (hqueued : ∀ n ∈ s.queue, (s.context n).state = .queued)
    (he : s.Effect m t) : t.QueueEnabled := by
  cases he with
  | completes code ws => exact h.of_fields rfl rfl
  | writes w r ws hr => exact h.of_fields rfl rfl
  | awaits w r hr => exact h.of_fields rfl rfl
  | retires w ws named serving => exact h.of_fields (by simp) (by simp)
  | setsLimits k ack reply ws hack hreply => exact h.of_fields rfl rfl
  | putsOnline k ws offline => exact h.of_fields rfl rfl
  | takesOffline k ws hk online => exact h.of_fields (by simp) (by simp)
  | writesMaster k r ws supervised => exact (h.writeMaster hqueued k r).of_fields rfl rfl
  | tunes limit sel ws bound =>
    obtain ⟨windows, strikeLimit, selection, heq⟩ := s.tuned_frame limit sel
    rw [heq]
    exact h.of_fields rfl rfl

theorem State.QueueEnabled.event (h : s.QueueEnabled) (engine : s.EngineLaws none) (init : s.InitLaw) (he : s.Event t) :
    t.QueueEnabled := by
  cases he with
  | nothing => exact h
  | init => exact fun n hn => by simp at hn
  | release asserted prs mode =>
    obtain ⟨-, -, -, -, hqueue, -⟩ := init asserted
    exact fun n hn => by simp [hqueue] at hn
  | answer ready status => exact h.of_fields rfl rfl
  | serve ready data => exact h.of_fields rfl rfl
  | portWrite ready m enabled data port => exact (h.portWrite enabled data port).of_fields rfl rfl
  | select ready m kind w unit named => exact h.of_fields rfl rfl
  | reserve ready m tag w unit named mem within => exact h.of_fields rfl rfl
  | take m rest cmd takes t effect =>
    have taking : (s.taking m rest).QueueEnabled := h.of_fewer (fun n hn => by simp [takes.head, show n ∈ rest from
        hn]) rfl
    exact taking.effect (fun n hn => ((engine.taking takes.head).queued n).1 hn) effect
  | properEnd released c current ast => exact h.of_fields (by simp) (by simp)
  | acceptedEnd released c current ast => exact h.of_fields (by simp) (by simp)
  | struckEnd released c current ast => exact h.of_fields (by simp) (by simp)
  | expire released e mem =>
    obtain ⟨windows, mastership, attention, heq⟩ := s.expireEntry_frame e
    rw [heq]
    exact h.of_fields rfl rfl
  | voidReply ready source status => exact h.of_fields rfl rfl
  | passWaiting ready e mem status => exact h.of_fields (by simp [State.passWaiting]) (by simp [State.passWaiting])
  | passExpired ready e mem status => exact h.of_fields (by simp [State.passExpired]) (by simp [State.passExpired])
  | grantTenure released idle =>
    unfold State.grantTenure
    split <;> exact h.of_fields rfl rfl
  | endTenure released holding k =>
    unfold State.endFaultReply
    split
    · exact h.of_fields (by simp) (by simp)
    · exact h.of_fields rfl rfl
  | movePrs asserted k level => exact h.of_fields rfl rfl
  | moveBoth asserted k mode => exact h.of_fields rfl rfl
  | presenceLoss released k hk =>
    rw [State.presenceLoss_eq]
    exact h.of_fields (by simp) (by simp)
  | presenceReturn released k mode hk level => exact h.of_fields rfl rfl

/-! ## The clocks (R42, R63) -/

/-- An event that starts no clock: a cycle that is current was, and an entry that waits did, with as much time left. -/
theorem State.ClockLaw.of_running (h : s.ClockLaw)
    (hcurrent : ∀ c, t.current = some c → ∃ d, s.current = some d ∧ c.timer ≤ d.timer)
    (hort : ∀ e ∈ t.ort, ∀ x, e.state = .waiting x → ∃ d ∈ s.ort, ∃ y, d.state = .waiting y ∧ x ≤ y) : t.ClockLaw := by
  obtain ⟨htimer, hdeadline⟩ := h
  refine ⟨fun c hc => ?_, fun e he x hx => ?_⟩
  · obtain ⟨d, hd, hle⟩ := hcurrent c hc
    exact Nat.le_trans hle (htimer d hd)
  · obtain ⟨d, hd, y, hy, hle⟩ := hort e he x hx
    exact Nat.le_trans hle (hdeadline d hd y hy)

theorem State.ClockLaw.of_fewer (h : s.ClockLaw) (hcurrent : ∀ c, t.current = some c → s.current = some c)
    (hort : ∀ e ∈ t.ort, e ∈ s.ort) : t.ClockLaw :=
  h.of_running (fun c hc => ⟨c, hcurrent c hc, Nat.le_refl _⟩) fun e he x hx => ⟨e, hort e he, x, hx, Nat.le_refl _⟩

theorem State.ClockLaw.of_fields (h : s.ClockLaw) (hcurrent : t.current = s.current) (hort : t.ort = s.ort) :
    t.ClockLaw := h.of_fewer (fun _ hc => hcurrent ▸ hc) fun _ he => hort ▸ he

theorem State.ort_removeReserved (c : CurrentCycle) (he : e ∈ (s.removeReserved c).ort) : e ∈ s.ort := by
  obtain ⟨heq, -⟩ | ⟨d, -, -, -, heq⟩ := s.removeReserved_cases c
  · rwa [heq] at he
  · rw [heq, State.removeEntry_ort] at he
    exact (List.mem_filter.1 he).1

theorem State.ClockLaw.endCycle (h : s.ClockLaw) (c : CurrentCycle) (ast : AstLines) : (s.endCycle c ast).ClockLaw :=
  h.of_fewer (fun d hd => by simp at hd) fun e he => by simpa using he

theorem State.ClockLaw.removeReserved (h : s.ClockLaw) (c : CurrentCycle) : (s.removeReserved c).ClockLaw :=
  h.of_fewer (fun d hd => by simpa using hd) fun _ he => State.ort_removeReserved c he

/-- An accepted SPLIT READ starts its deadline from the slot's reply limit (R62, R63). -/
theorem State.ClockLaw.acceptReserved (h : s.ClockLaw) (slots : s.SlotLaw) (c : CurrentCycle) :
    (s.acceptReserved c).ClockLaw := by
  obtain ⟨-, -, hlimit⟩ := slots.limits c.slot
  unfold State.acceptReserved
  split
  · refine ⟨h.1, fun e he x hx => ?_⟩
    obtain ⟨d, hd, rfl⟩ := List.mem_map.1 he
    split at hx
    · cases hx
      exact Nat.mul_le_mul_right _ hlimit
    · exact h.2 d hd x hx
  · exact h
  · exact h

/-- A selected cycle starts its timer from the slot's acknowledge limit (R42). -/
theorem State.ClockLaw.select (h : s.ClockLaw) (slots : s.SlotLaw) (m : MasterId) (kind : CurrentKind) (w : WindowId)
    (unit : Nat) : (s.select m kind w unit).ClockLaw := by
  refine ⟨fun c hc => ?_, h.2⟩
  cases hc
  exact (slots.limits _).1.2

theorem State.ClockLaw.reserve (h : s.ClockLaw) (m : MasterId) (tag : Tag) (w : WindowId) (unit : Nat) :
    (s.reserve m tag w unit).ClockLaw := by
  refine ⟨h.1, fun e he x hx => ?_⟩
  obtain he | he := List.mem_append.1 he
  · exact h.2 e he x hx
  · cases List.mem_singleton.1 he
    cases hx

theorem State.ClockLaw.withdrawCycle (h : s.ClockLaw) (k : SlotId) : (s.withdrawCycle k).ClockLaw := by
  obtain ⟨heq, -⟩ | ⟨c, -, -, heq⟩ := s.withdrawCycle_cases k
  · rwa [heq]
  · rw [heq]
    exact (h.removeReserved c).endCycle c _

theorem State.ClockLaw.withdrawEntries (h : s.ClockLaw) (k : SlotId) : (s.withdrawEntries k).ClockLaw := by
  refine h.of_running (fun c hc => ⟨c, by simpa using hc, Nat.le_refl _⟩) fun e he x hx => ?_
  rw [(s.expires_withdrawEntries k).ort] at he
  obtain ⟨d, hd, rfl⟩ := List.mem_map.1 he
  split at hx
  · cases hx
  · exact ⟨d, hd, x, hx, Nat.le_refl _⟩

/-- No command reaches the ORT or the current cycle. -/
theorem State.Effect.tracker (he : s.Effect m t) : t.ort = s.ort ∧ t.current = s.current ∧ t.mastership = s.mastership
    := by
  cases he with
  | completes code ws => exact ⟨rfl, rfl, rfl⟩
  | writes w r ws hr => exact ⟨rfl, rfl, rfl⟩
  | awaits w r hr => exact ⟨rfl, rfl, rfl⟩
  | retires w ws named serving => simp
  | setsLimits k ack reply ws hack hreply => exact ⟨rfl, rfl, rfl⟩
  | putsOnline k ws offline => exact ⟨rfl, rfl, rfl⟩
  | takesOffline k ws hk online => simp
  | writesMaster k r ws supervised =>
    obtain ⟨contexts, queue, heq⟩ := s.writeMaster_frame k r
    rw [heq]
    exact ⟨rfl, rfl, rfl⟩
  | tunes limit sel ws bound =>
    obtain ⟨windows, strikeLimit, selection, heq⟩ := s.tuned_frame limit sel
    rw [heq]
    exact ⟨rfl, rfl, rfl⟩

theorem State.ClockLaw.event (h : s.ClockLaw) (slots : s.SlotLaw) (he : s.Event t) : t.ClockLaw := by
  cases he with
  | nothing => exact h
  | init => exact h.of_fewer (fun c hc => by simp at hc) fun e he => by simp at he
  | release asserted prs mode => exact h.of_fields (by simp) (by simp)
  | answer ready status => exact h.of_fields rfl rfl
  | serve ready data => exact h.of_fields rfl rfl
  | portWrite ready m enabled data port =>
    obtain ⟨windows, contexts, queue, attention, heq⟩ := s.portWrite_frame m data port
    rw [heq]
    exact h.of_fields rfl rfl
  | select ready m kind w unit named => exact h.select slots m kind w unit
  | reserve ready m tag w unit named mem within =>
    exact (h.reserve m tag w unit).select (s := s.reserve m tag w unit)
      ⟨slots.slot_zero, slots.absent, slots.limits⟩ m _ w unit
  | take m rest cmd takes t effect =>
    obtain ⟨hort, hcurrent, -⟩ := effect.tracker
    exact h.of_fields hcurrent hort
  | properEnd released c current ast =>
    have cleared : (s.strikeClear c.window).ClockLaw := h.of_fields (by simp) (by simp)
    exact (cleared.removeReserved c).endCycle c ast
  | acceptedEnd released c current ast =>
    have cleared : (s.strikeClear c.window).ClockLaw := h.of_fields (by simp) (by simp)
    have slots' : (s.strikeClear c.window).SlotLaw := State.slotLaw_of_lawful fun k => by simpa using slots.lawful k
    exact (cleared.acceptReserved slots' c).endCycle c ast
  | struckEnd released c current ast =>
    have struck : (s.strike c.window).ClockLaw := h.of_fields (by simp) (by simp)
    exact (struck.removeReserved c).endCycle c ast
  | expire released e mem =>
    obtain ⟨windows, mastership, attention, heq⟩ := s.expireEntry_frame e
    rw [heq]
    refine h.of_running (fun c hc => ⟨c, hc, Nat.le_refl _⟩) fun b hb x hx => ?_
    obtain ⟨d, hd, rfl⟩ := List.mem_map.1 hb
    split at hx
    · cases hx
    · exact ⟨d, hd, x, hx, Nat.le_refl _⟩
  | voidReply ready source status => exact h.of_fields rfl rfl
  | passWaiting ready e mem status =>
    obtain ⟨windows, contexts, heq⟩ := s.passWaiting_frame e status
    rw [heq]
    exact h.of_fewer (fun _ hc => hc) fun _ he => (List.mem_filter.1 he).1
  | passExpired ready e mem status =>
    obtain ⟨windows, contexts, mastership, heq⟩ := s.passExpired_frame e status
    rw [heq]
    exact h.of_fewer (fun _ hc => hc) fun _ he => (List.mem_filter.1 he).1
  | grantTenure released idle =>
    unfold State.grantTenure
    split <;> exact h.of_fields rfl rfl
  | endTenure released holding key =>
    unfold State.endFaultReply
    split
    · next e _ =>
      refine h.of_fewer (fun c hc => by simpa using hc) fun b hb => ?_
      rw [State.endTenure_ort, State.removeEntry_ort] at hb
      exact (List.mem_filter.1 hb).1
    · exact h.of_fewer (fun _ hc => hc) fun _ he => (List.mem_filter.1 he).1
  | movePrs asserted k level => exact h.of_fields rfl rfl
  | moveBoth asserted k mode => exact h.of_fields rfl rfl
  | presenceLoss released k hk =>
    have drained : (((s.movePrs k false).setSlot k ((s.movePrs k false).slot k).lost).forceDrain k).ClockLaw :=
      h.of_fields (by simp) (by simp)
    rw [State.presenceLoss_eq]
    exact ((drained.withdrawCycle k).withdrawEntries k).of_fields (by simp) (by simp)
  | presenceReturn released k mode hk level => exact h.of_fields rfl rfl

theorem EntryState.waiting_of_tick {st : EntryState} {x : Nat} (h : st.tick = .waiting x) :
    ∃ y, st = .waiting y ∧ x ≤ y := by
  cases st with
  | waiting d =>
    cases h
    exact ⟨d, rfl, by omega⟩
  | reserved => cases h
  | expired f => cases h

theorem State.ClockLaw.tick (h : s.ClockLaw) : s.tick.ClockLaw := by
  refine h.of_running (fun c hc => ?_) fun e he x hx => ?_
  · obtain ⟨d, hd, rfl⟩ := Option.map_eq_some_iff.1 hc
    exact ⟨d, hd, Nat.sub_le _ _⟩
  · obtain ⟨d, hd, rfl⟩ := List.mem_map.1 he
    obtain ⟨y, hy, hle⟩ := EntryState.waiting_of_tick hx
    exact ⟨d, hd, y, hy, hle⟩

end Sys2Proof.Machine
end

section
/-!
PROOFS. The laws of the lines and of INIT, and all the laws of the device together: every step keeps them (O59), and
they
hold right after reset (O60).
-/
namespace Sys2Proof.Machine

variable {s t : State} {m : MasterId} {k : SlotId} {w : WindowId} {c : CurrentCycle} {e : OrtEntry}

/-! ## The lines (R34 to R38, R70, R78, R169) -/

/-- The law of the lines; a structure, so that no proof reads through it to the match on the current cycle. -/
structure State.LinesSound (s : State) : Prop where
  law : s.LinesLaw

theorem State.linesSound_none (h : s.current = none) : s.LinesSound ↔ s.lines = .idle ∨ s.mastership = .holding
    ∧ s.lines.sel = none ∧ s.lines.lof = none ∧ (∀ k : SlotId, s.lines.qt[k] = false) ∧ s.lines.void = false := by
  have hlaw : s.LinesSound ↔ s.LinesLaw := ⟨fun hs => hs.law, fun hl => ⟨hl⟩⟩
  rw [hlaw, State.LinesLaw, h]

theorem State.linesSound_some (h : s.current = some c) : s.LinesSound
    ↔ (s.lines.sel = none ∨ s.lines.sel = some c.slot) ∧ s.lines.lof.isSome = true ∧ s.lines.qt[c.slot] = false
      ∧ s.lines.ast = .released ∧ s.lines.data = none ∧ s.lines.source = none ∧ s.lines.dest = none
      ∧ s.lines.void = false := by
  have hlaw : s.LinesSound ↔ s.LinesLaw := ⟨fun hs => hs.law, fun hl => ⟨hl⟩⟩
  rw [hlaw, State.LinesLaw, h]

/-- Between cycles every line is released. -/
theorem State.linesSound_idle (hcurrent : s.current = none) (hlines : s.lines = .idle) : s.LinesSound :=
  (State.linesSound_none hcurrent).2 (.inl hlines)

/-- An event that leaves the lines and the current cycle, and ends no tenure. -/
theorem State.LinesSound.of_fields (h : s.LinesSound) (hcurrent : t.current = s.current) (hlines : t.lines = s.lines)
    (hmast : s.mastership = .holding → t.mastership = .holding) : t.LinesSound := by
  cases hc : s.current with
  | none =>
    rw [State.linesSound_none (hcurrent.trans hc), hlines]
    exact ((State.linesSound_none hc).1 h).imp_right (.imp_left hmast)
  | some c =>
    rw [State.linesSound_some (hcurrent.trans hc), hlines]
    exact (State.linesSound_some hc).1 h

/-- The lines of a selected cycle (R34 to R36). -/
theorem State.linesSound_select (s : State) (m : MasterId) (kind : CurrentKind) (w : WindowId) (unit : Nat) :
    (s.select m kind w unit).LinesSound := by
  have hrecord : (s.select m kind w unit).current
      = some ⟨m, kind, w, (s.window w).slot, (s.slot (s.window w).slot).ackLimit⟩ := rfl
  rw [State.linesSound_some hrecord]
  refine ⟨?_, rfl, ?_, rfl, rfl, rfl, rfl, rfl⟩
  · by_cases hmode : (s.slot (s.window w).slot).mode = .directed
    · exact .inr (if_pos hmode)
    · exact .inl (if_neg hmode)
  · rw [← Bool.not_eq_true]
    exact fun hquiet => ((s.quiet_iff _ _).1 hquiet).2 rfl

/-- The lines of the part's own tenure steer and quiet no slot and void nothing (R78). -/
theorem State.tenureLines_unsteered (s : State) (key : MasterId × Tag) :
    (s.tenureLines key).sel = none ∧ (s.tenureLines key).lof = none ∧ (∀ k : SlotId, (s.tenureLines key).qt[k] = false)
      ∧ (s.tenureLines key).void = false := by
  have quiet (j : SlotId) : Lines.idle.qt[j] = false := Lines.onlyDrives_idle.quiet j
  unfold State.tenureLines
  split
  · exact ⟨rfl, rfl, quiet, rfl⟩
  · split
    · exact ⟨rfl, rfl, quiet, rfl⟩
    · exact ⟨rfl, rfl, quiet, rfl⟩
    · exact ⟨rfl, rfl, quiet, rfl⟩

theorem State.linesSound_grantTenure (hcurrent : s.current = none) : s.grantTenure.LinesSound := by
  unfold State.grantTenure
  split
  · exact State.linesSound_idle hcurrent rfl
  · next k rest _ =>
    exact (State.linesSound_none (s := State.withLines { s with mastership := .holding } (s.tenureLines k)) hcurrent).2
      (.inr ⟨rfl, s.tenureLines_unsteered k⟩)

theorem State.linesSound_endCycle (s : State) (c : CurrentCycle) (ast : AstLines) : (s.endCycle c ast).LinesSound :=
  State.linesSound_idle (State.endCycle_current ..) (State.endCycle_lines ..)

/-- A command leaves the lines and the input pins as they are (R169). -/
theorem State.Effect.lines (he : s.Effect m t) : t.lines = s.lines ∧ t.pins = s.pins := by
  cases he with
  | completes code ws => exact ⟨rfl, rfl⟩
  | writes w r ws hr => exact ⟨rfl, rfl⟩
  | awaits w r hr => exact ⟨rfl, rfl⟩
  | retires w ws named serving => simp
  | setsLimits k ack reply ws hack hreply => exact ⟨rfl, rfl⟩
  | putsOnline k ws offline => exact ⟨rfl, rfl⟩
  | takesOffline k ws hk online => simp
  | writesMaster k r ws supervised =>
    obtain ⟨contexts, queue, heq⟩ := s.writeMaster_frame k r
    rw [heq]
    exact ⟨rfl, rfl⟩
  | tunes limit sel ws bound =>
    obtain ⟨windows, strikeLimit, selection, heq⟩ := s.tuned_frame limit sel
    rw [heq]
    exact ⟨rfl, rfl⟩

theorem State.assertRequest_holding (h : s.mastership = .holding) : s.assertRequest.mastership = .holding := by
  rw [State.assertRequest_mastership, if_neg (by simp [h]), h]

theorem State.withdrawEntries_holding (h : s.mastership = .holding) (k : SlotId) :
    (s.withdrawEntries k).mastership = .holding := by
  rw [(s.expires_withdrawEntries k).mastership]
  split
  · exact h
  · exact State.assertRequest_holding h

theorem State.LinesSound.withdrawCycle (h : s.LinesSound) (k : SlotId) : (s.withdrawCycle k).LinesSound := by
  obtain ⟨heq, -⟩ | ⟨c, -, -, heq⟩ := s.withdrawCycle_cases k
  · rwa [heq]
  · rw [heq]
    exact State.linesSound_endCycle _ c _

theorem State.LinesSound.presenceLoss (h : s.LinesSound) (k : SlotId) : (s.presenceLoss k).LinesSound := by
  have drained : ((s.setSlot k (s.slot k).lost).forceDrain k).LinesSound := h.of_fields (by simp) (by simp) (by simp)
  rw [State.presenceLoss_eq]
  exact (drained.withdrawCycle k).of_fields (by simp) (by simp) fun hm =>
    (State.raise_mastership ..).trans (State.withdrawEntries_holding hm k)

theorem State.endFaultReply_fields (s : State) (key : MasterId × Tag) :
    (s.endFaultReply key).current = s.current ∧ (s.endFaultReply key).lines = .idle
      ∧ (s.endFaultReply key).pins = s.pins := by
  unfold State.endFaultReply
  split
  · exact ⟨by simp, rfl, by simp⟩
  · exact ⟨rfl, rfl, rfl⟩

theorem State.LinesSound.event (h : s.LinesSound) (mastership : s.MastershipLaw) (he : s.Event t) : t.LinesSound := by
  cases he with
  | nothing => exact h
  | init => exact State.linesSound_idle (by simp) (by simp)
  | release asserted prs mode => exact h.of_fields (by simp) (by simp) (by simp)
  | answer ready status => exact State.linesSound_idle ready.noCycle rfl
  | serve ready data => exact State.linesSound_idle ready.noCycle rfl
  | portWrite ready m enabled data port =>
    obtain ⟨windows, contexts, queue, attention, heq⟩ := s.portWrite_frame m data port
    rw [heq]
    exact State.linesSound_idle ready.noCycle rfl
  | select ready m kind w unit named => exact s.linesSound_select m kind w unit
  | reserve ready m tag w unit named mem within => exact State.linesSound_select _ m _ w unit
  | take m rest cmd takes t effect =>
    obtain ⟨-, hcurrent, hmast⟩ := effect.tracker
    exact h.of_fields hcurrent effect.lines.1 fun hm => hmast.trans hm
  | properEnd released c current ast => exact State.linesSound_endCycle _ c ast
  | acceptedEnd released c current ast => exact State.linesSound_endCycle _ c ast
  | struckEnd released c current ast => exact State.linesSound_endCycle _ c ast
  | expire released e mem =>
    refine h.of_fields (by simp [State.expireEntry]) (by simp [State.expireEntry]) fun hm => ?_
    rw [State.expireEntry]
    exact State.assertRequest_holding (by simpa using hm)
  | voidReply ready source status => exact State.linesSound_idle ready.noCycle rfl
  | passWaiting ready e mem status =>
    obtain ⟨windows, contexts, heq⟩ := s.passWaiting_frame e status
    rw [heq]
    exact State.linesSound_idle ready.noCycle rfl
  | passExpired ready e mem status =>
    obtain ⟨windows, contexts, mastership, heq⟩ := s.passExpired_frame e status
    rw [heq]
    exact State.linesSound_idle ready.noCycle rfl
  | grantTenure released idle => exact State.linesSound_grantTenure idle
  | endTenure released holding key =>
    obtain ⟨hcurrent, hlines, -⟩ := s.endFaultReply_fields key
    exact State.linesSound_idle (hcurrent.trans (mastership.2 holding)) hlines
  | movePrs asserted k level => exact h.of_fields rfl rfl id
  | moveBoth asserted k mode => exact h.of_fields rfl rfl id
  | presenceLoss released k hk =>
    have moved : (s.movePrs k false).LinesSound := h.of_fields rfl rfl id
    exact moved.presenceLoss k
  | presenceReturn released k mode hk level => exact h.of_fields rfl rfl id

/-- The passing of time reaches no line and neither ends nor begins a cycle. -/
theorem State.LinesSound.tick (h : s.LinesSound) : s.tick.LinesSound := by
  cases hc : s.current with
  | none => exact (State.linesSound_none (s := s.tick) (by rw [State.tick, hc]; rfl)).2 ((State.linesSound_none hc).1 h)
  | some c =>
    exact (State.linesSound_some (s := s.tick) (c := { c with timer := c.timer - 1 }) (by rw [State.tick, hc]; rfl)).2
      ((State.linesSound_some hc).1 h)

/-! ## INIT (R22, R41, R84, R121) -/

theorem State.initLaw_of_released (h : s.pins.init = false) (hpins : t.pins.init = s.pins.init) : t.InitLaw :=
  fun hi => by simp [hpins, h] at hi

theorem State.InitLaw.event (h : s.InitLaw) (he : s.Event t) : t.InitLaw := by
  cases he with
  | nothing => exact h
  | init => exact fun _ => ⟨by simp, by simp, by simp, by simp, by simp, s.window_initialise⟩
  | release asserted prs mode => exact fun hi => by simp [releasedPins] at hi
  | answer ready status => exact State.initLaw_of_released ready.released rfl
  | serve ready data => exact State.initLaw_of_released ready.released rfl
  | portWrite ready m enabled data port =>
    obtain ⟨windows, contexts, queue, attention, heq⟩ := s.portWrite_frame m data port
    exact State.initLaw_of_released ready.released (by rw [heq]; rfl)
  | select ready m kind w unit named => exact State.initLaw_of_released ready.released rfl
  | reserve ready m tag w unit named mem within => exact State.initLaw_of_released ready.released rfl
  | take m rest cmd takes t effect =>
    exact State.initLaw_of_released takes.released (congrArg Pins.init effect.lines.2)
  | properEnd released c current ast => exact State.initLaw_of_released released (by simp)
  | acceptedEnd released c current ast => exact State.initLaw_of_released released (by simp)
  | struckEnd released c current ast => exact State.initLaw_of_released released (by simp)
  | expire released e mem => exact State.initLaw_of_released released (by simp [State.expireEntry])
  | voidReply ready source status => exact State.initLaw_of_released ready.released rfl
  | passWaiting ready e mem status => exact State.initLaw_of_released ready.released (by simp [State.passWaiting])
  | passExpired ready e mem status => exact State.initLaw_of_released ready.released (by simp [State.passExpired])
  | grantTenure released idle =>
    refine State.initLaw_of_released released ?_
    unfold State.grantTenure
    split <;> rfl
  | endTenure released holding k =>
    exact State.initLaw_of_released released (congrArg Pins.init (s.endFaultReply_fields k).2.2)
  | movePrs asserted k level => exact fun _ => h asserted
  | moveBoth asserted k mode => exact fun _ => h asserted
  | presenceLoss released k hk =>
    exact State.initLaw_of_released released 
      ((congrArg Pins.init ((s.movePrs k false).presenceLoss_pins k)).trans rfl)
  | presenceReturn released k mode hk level => exact State.initLaw_of_released released rfl

theorem State.InitLaw.tick (h : s.InitLaw) : s.tick.InitLaw := fun hi => by
  obtain ⟨hcurrent, hort, hfault, hmast, hqueue, hwindow⟩ := h hi
  exact ⟨by rw [State.tick, hcurrent]; rfl, by rw [State.tick, hort]; rfl, hfault, hmast, hqueue, hwindow⟩

/-! ## All the laws together -/

/-- The laws by family: what reads the Window Table, the engine, the Read Tracker, the Registry, and the laws that stand
alone. -/
theorem State.deviceLaws_iff : s.DeviceLaws ↔ s.TableLaws s.Online ∧ s.EngineLaws none ∧ s.TrackerLaws ∧ s.RegistryLaws
    ∧ s.QueueEnabled ∧ s.ClockLaw ∧ s.AttentionLaw ∧ s.LinesSound ∧ s.InitLaw := by
  constructor
  · intro h
    exact ⟨State.tableLaws_iff.2 ⟨h.port, h.cleared, h.range, h.overlap, h.service, h.strike, h.reference⟩,
      State.engineLaws_none_iff.2 ⟨h.queue, h.wait⟩, ⟨h.ort, h.faultQueue, h.mastership, h.reserved⟩,
      ⟨h.slots, h.presence, h.supervisor⟩, h.queue.enabledLaw_iff.1 h.enabled, h.clock, h.attention, ⟨h.lines⟩, h.init⟩
  · rintro ⟨table, engine, tracker, registry, enabled, clock, attention, lines, init⟩
    obtain ⟨port, cleared, range, overlap, service, strike, reference⟩ := State.tableLaws_iff.1 table
    obtain ⟨queue, wait⟩ := State.engineLaws_none_iff.1 engine
    obtain ⟨ort, faultQueue, mastership, reserved⟩ := tracker
    obtain ⟨slots, presence, supervisor⟩ := registry
    exact {
      port, cleared, range, overlap, service, strike, wait, queue, enabled := queue.enabledLaw_iff.2 enabled,
        supervisor,
      ort, faultQueue, mastership, reserved, reference, slots, presence, clock, attention, lines := lines.law, init }

/-- Settles O59: each family of laws is kept by every event, with what it needs of the others, and by the passing of
time. -/
theorem deviceLawsKept : Obligations.DeviceLawsKept := by
  intro s t h hx
  obtain ⟨table, engine, tracker, registry, enabled, clock, attention, lines, init⟩ := State.deviceLaws_iff.1 h
  have engine' : t.EngineLaws none := engine.step hx
  have tracker' : t.TrackerLaws := tracker.step hx
  refine State.deviceLaws_iff.2 ?_
  obtain rfl | ⟨rest, he⟩ := step_cases hx
  · exact ⟨table.tick, engine', tracker', registry.of_fields rfl rfl rfl, enabled.of_fields rfl rfl, clock.tick,
      attention.of_attention rfl, lines.tick, init.tick⟩
  · have table0 : ({ s with pending := rest } : State).TableLaws s.Online := table.of_fields rfl rfl rfl rfl
    have engine0 : ({ s with pending := rest } : State).EngineLaws none := engine.of_fields rfl rfl rfl
    have registry0 : ({ s with pending := rest } : State).RegistryLaws := registry.of_fields rfl rfl rfl
    have enabled0 : ({ s with pending := rest } : State).QueueEnabled := enabled.of_fields rfl rfl
    have clock0 : ({ s with pending := rest } : State).ClockLaw := clock.of_fields rfl rfl
    have attention0 : ({ s with pending := rest } : State).AttentionLaw := attention.of_attention rfl
    have lines0 : ({ s with pending := rest } : State).LinesSound := lines.of_fields rfl rfl id
    have init0 : ({ s with pending := rest } : State).InitLaw := init
    exact ⟨State.TableLaws.event (table0.online_of_slots rfl) engine0 registry0 init0 he, engine', tracker',
      registry0.event he, enabled0.event engine0 init0 he, clock0.event registry0.slots he, attention0.event he,
      lines0.event tracker.mastership he, init0.event he⟩

/-- The laws at the release of INIT, whose assertion has cleared every block (R22, R102). -/
theorem State.deviceLaws_release_initialise (s : State) (prs mode : BitVec 16) :
    (s.initialise.release prs mode).DeviceLaws := by
  have hzero : (s.initialise.release prs mode).Online 0 := by
    rw [State.Online, State.slot_release]
    exact ((releasedSlot_lawful prs mode 0).zero rfl).2
  refine State.deviceLaws_iff.2 ⟨?_, s.engineLaws_initialise.release prs mode,
    s.trackerLaws_initialise.of_tracker (State.tracker_release _ prs mode), State.registryLaws_release _ prs mode,
    fun m hm => by simp at hm, ⟨fun c hc => by simp at hc, fun e he => by simp at he⟩, ?_,
    State.linesSound_idle (by simp) (by simp), fun hi => by simp [releasedPins] at hi⟩
  · exact State.tableLaws_startUp (fun w => by simp) (by simp) (by simp)
      (State.release_strikeLimit _ prs mode ▸ by decide) hzero
  · rw [State.attentionLaw_iff, State.attention_release, State.attention_initialise]
    exact ⟨ReasonRecord.sound_clear, ReasonRecord.sound_clear, ReasonRecord.sound_clear⟩

/-- Settles O60: the reset state is INIT asserted and released over an empty rack. -/
theorem deviceLawsAtReset : Obligations.DeviceLawsAtReset := by
  unfold Obligations.DeviceLawsAtReset
  rw [State.reset_eq_release]
  exact State.deviceLaws_release_initialise _ 0 0

end Sys2Proof.Machine
end
